-- ==== Sys2Proof/Word.lean ====
section
/-! DEFINITION. The word types of the OU6124: port words, bus bytes, and the numbered things of its tables. -/

namespace Sys2Proof

/-- A port word of 32 bits (chapter 12.2). -/
abbrev Word := BitVec 32

/-- A byte of the energy port (R162). -/
abbrev Byte := BitVec 8

/-- A channel number 0..23. -/
abbrev Chan := Fin 24

/-- A roster row number 0..31 (R12). -/
abbrev RowIndex := Fin 32

end Sys2Proof
end

