-- ==== Sys2Proof/Syntax.lean ====
section
/-! DEFINITION. The commands of the block: one constructor for each row of spec/opcode_table.json. -/

namespace Sys2Proof

/-- The two control ports (chapter 10). -/
inductive Port where
  | service
  | energy
  deriving DecidableEq, Repr

/-- What the outside gives of one channel for a millisecond, in mA: the current at its close, before saturation (R43), and,
where an uplink mark of the channel closes in it, the current averaged over the middle millisecond of that mark (R109). -/
structure Reading where
  current : Nat
  average : Nat
  deriving DecidableEq, Repr

/-- What the outside gives of a channel's current at the start of an answer, in mA (R108): what it was just before the half
millisecond, and the least it was through it. -/
structure Rise where
  before : Nat
  held : Nat
  deriving DecidableEq, Repr

/-- The part's steps. An operand is what the outside supplies at the step: a reading, an instant inside the current
millisecond (microseconds after its beginning), a port's words and bytes. Everything else a step needs is in the state. -/
inductive Instr where
  /-- DEVICE_RESET (R171): power-on, or nRESET asserted. -/
  | deviceReset
  /-- RESET_RELEASE (R2): the straps ADR1 and ADR0 are read here (R162). -/
  | resetRelease (adr1 adr0 : Bool)
  /-- SAMPLE_EVENT (R44): the bus in units of 10 mV, before saturation, and the reading of each channel. -/
  | sampleEvent (bus : Nat) (readings : Vector Reading 24)
  /-- OPEN_LOAD_LOST (R80). -/
  | openLoadLost (c : Chan)
  /-- SWITCH_ON_COMPLETE (R70). -/
  | switchOnComplete (c : Chan)
  /-- SLOT_END (R4). -/
  | slotEnd
  /-- FRAME_OPENING (R6). -/
  | frameOpening
  /-- SLOT_START (R5). -/
  | slotStart
  /-- RAMP_END (R67). -/
  | rampEnd (c : Chan)
  /-- CHOP_PERIOD_START (R74). -/
  | chopPeriodStart (c : Chan)
  /-- TRIP_ASSERT (R75). -/
  | tripAssert (c : Chan)
  /-- OVERCURRENT_ASSERT (R77). -/
  | overcurrentAssert (c : Chan)
  /-- EXCHANGE_START (R106). -/
  | exchangeStart (c : Chan)
  /-- DOWNLINK_END (R108): `baseline` is the current averaged over the stop mark, in mA. -/
  | downlinkEnd (c : Chan) (baseline : Nat)
  /-- ANSWER_START (R108): the current has risen and stood for 0.5 ms, up to `instant` microseconds into the current
  millisecond. -/
  | answerStart (c : Chan) (instant : Fin 1001) (rise : Rise)
  /-- WINDOW_EXPIRY (R108). -/
  | windowExpiry (c : Chan)
  /-- UPLINK_END (R113): the close of the 24th mark, with the current averaged over its middle millisecond, in mA (R109). -/
  | uplinkEnd (c : Chan) (average : Nat)
  /-- PROBE_END_LINE (R126): the line voltage in units of 10 mV, before saturation at 1200. -/
  | probeEndLine (reading : Nat)
  /-- PROBE_END_PAIR (R127): the partner current in units of 0.1 mA (FFFFh is the mark of no reading). -/
  | probeEndPair (reading : Fin 65535)
  /-- SERVICE_SELECT (R159): the falling edge of nSEL. -/
  | serviceSelect
  /-- SERVICE_DESELECT (R161): the rising edge of nSEL. -/
  | serviceDeselect
  /-- ENERGY_ADDRESS_BYTE (R162): the first byte after a start or a repeated start. -/
  | energyAddressByte (b : Byte)
  /-- ENERGY_ARGUMENT_BYTE (R163). -/
  | energyArgumentByte (b : Byte)
  /-- ENERGY_READ_BYTE (R165). -/
  | energyReadByte
  /-- UNKNOWN_COMMAND (R159): a command code that names no command. -/
  | unknownCommand (p : Port) (code : Byte)
  /-- NOP (R167). -/
  | nop (p : Port)
  /-- STATUS (R167). -/
  | status (p : Port)
  /-- SEEK (R168). -/
  | seek (p : Port) (arg : Word)
  /-- READ (R169). -/
  | read (p : Port) (arg : Word)
  /-- TAKE (R175). -/
  | take (p : Port)
  /-- ACK (R177). -/
  | ack (p : Port) (arg : Word)
  /-- MASK (R178). -/
  | mask (p : Port) (arg : Word)
  /-- WATERMARK (R177). -/
  | watermark (p : Port) (arg : Word)
  /-- VOTE (R22). -/
  | vote (p : Port) (arg : Word)
  /-- RESET_PORT (R170). -/
  | resetPort (p : Port)
  /-- POST (R146): two argument words. -/
  | post (p : Port) (arg1 arg2 : Word)
  /-- CANCEL_EDITS (R154). -/
  | cancelEdits (p : Port)
  /-- PROBE (R122). -/
  | probe (p : Port) (arg : Word)
  /-- WAKE (R89). -/
  | wake (p : Port) (arg : Word)
  /-- RETIRE (R99). -/
  | retire (p : Port) (arg : Word)
  /-- RELEASE (R100). -/
  | release (p : Port) (arg : Word)
  /-- CLEAR_FAULT (R98). -/
  | clearFault (p : Port) (arg : Word)
  /-- TEST (R134). -/
  | test (p : Port) (arg : Word)
  /-- ABORT_TEST (R135). -/
  | abortTest (p : Port) (arg : Word)
  /-- SEND (R118). -/
  | send (p : Port) (arg : Word)
  /-- SET_GRANT (R49). -/
  | setGrant (p : Port) (arg : Word)
  /-- DEPOSIT (R52). -/
  | deposit (p : Port) (arg : Word)
  /-- DRAIN (R53). -/
  | drain (p : Port)
  /-- DETECTOR_LEVEL_CROSSING (R73): the sensed current of the channel becomes `current` mA, `instant` microseconds
  into the current millisecond. -/
  | detectorLevelCrossing (c : Chan) (current : Nat) (instant : Fin 1001)
  /-- ENERGY_COMMAND_BYTE (R163). -/
  | energyCommandByte (b : Byte)
  /-- ENERGY_STOP_CONDITION (R164): a stop condition or a repeated start. -/
  | energyStopCondition
  /-- SERVICE_WORD_COMPLETION (R159): the 32nd SCK period of a word. -/
  | serviceWordCompletion (w : Word)
  deriving DecidableEq, Repr

end Sys2Proof
end

