-- ==== Sys2Proof/Config.lean ====
section
/-! DEFINITION. The values the manual leaves open. They have no body: nothing can be proved of the value of one. -/

namespace Sys2Proof

/-- FREE VALUE (notes/assumptions/12.md). What a CHANNEL record shows in a named field that has no meaning at the
instant it is latched: the status fields with no status record, the mailbox fields with the mailbox empty, the test fields
with no test context, band_before in phase REQUESTED (chapter 12.4 calls it meaningless). The first argument counts the
records latched so far, the second numbers the field. -/
opaque Config.unstatedField : Nat → Nat → Nat

end Sys2Proof
end

