-- ==== Sys2Proof/Machine/State.lean ====
section
/-! DEFINITION. The state of the OU6124 as plain data: every register, queue, counter, mode and pin the manual gives
the block, and its value after device reset. Times are in ms since the release of device reset unless a field says µs. -/

namespace Sys2Proof.Machine

/-! ## Names -/

/-- The seven lifecycle states of a channel (R86). -/
inductive Life where
  | dark | waking | fed | testing | resuming | faulted | retired
  deriving DecidableEq, Repr

/-- State causes (R85). -/
inductive StateCause where
  | noCause | silent | openLoad | dozed | wakeFailed | cleared | released
  | overcurrent | limit | short | foreign | crossed
  deriving DecidableEq, Repr

/-- Line results (R85, R96). -/
inductive LineResult where
  | unknown | openLine | signature | short | foreign
  deriving DecidableEq, Repr

/-- Pair results (R85, R96). -/
inductive PairResult where
  | untested | clear | crossed
  deriving DecidableEq, Repr

/-- Channel classes (R88). -/
inductive ChanClass where
  | emergency | standard | deferrable
  deriving DecidableEq, Repr

/-- Downlink commands (R106, chapter 12.1). -/
inductive DownCmd where
  | wake | keep | query | beginTest | resultQuery | doze
  | aux (n : Fin 4)
  deriving DecidableEq, Repr

/-- Phases of a battery test (R133). -/
inductive TestPhase where
  | requested | running | resuming
  deriving DecidableEq, Repr

/-- Outcomes of a battery test (R144). -/
inductive TestOutcome where
  | complete | refused | aborted | noAnswer | lost | faulted | retired
  deriving DecidableEq, Repr

/-- Phases of an exchange in flight (R103). -/
inductive ExchangePhase where
  | downlink | window | uplink
  deriving DecidableEq, Repr

/-- Outcomes of an exchange handed to the channel table (R113, R115); ABANDONED is handed to nobody. -/
inductive ExchangeOutcome where
  | valid | unexpected | corrupt | noAnswer
  deriving DecidableEq, Repr

/-- Kinds of an uplink answer (chapter 12.1); kind codes 0, 6 and 7 name none. -/
inductive AnswerKind where
  | hello | status | ack | nak | result
  deriving DecidableEq, Repr

/-- The four states of a feed switch (R66). -/
inductive SwitchState where
  | opened | ramping | on | chopOff
  deriving DecidableEq, Repr

/-- Outcomes of a mailbox command (R119). -/
inductive MailOutcome where
  | acked | naked | answered | dropped
  deriving DecidableEq, Repr

/-- Outcomes of a probe (R130). -/
inductive ProbeOutcome where
  | short | signature | openLine | foreign | clear | crossed | cancelled | notQueued
  deriving DecidableEq, Repr

/-- The eight edit kinds (R145). -/
inductive EditKind where
  | rowSet | rowAdd | rowDrop | channelConfig | layout | globals | classHold | floors
  deriving DecidableEq, Repr

/-- Reasons of an EDIT_REJECT (R150). -/
inductive RejectReason where
  | rowFull | alreadyMember | notMember
  deriving DecidableEq, Repr

/-- Outcomes of a port command (R157). -/
inductive ReplyCode where
  | done | notPermitted | badArgument | wrongState | queueFull | mailboxBusy | locked | empty
  deriving DecidableEq, Repr

/-- The four tables of the table window (R168). -/
inductive Table where
  | roster | channel | account | probeQueue
  deriving DecidableEq, Repr

/-- Directions of the table pointer (R157). -/
inductive Direction where
  | up | down
  deriving DecidableEq, Repr

/-- Where the timebase stands between two slot starts (R3, R6): inside a slot; after its slot end; after the frame
opening that follows the last slot end of a frame. -/
inductive SlotPhase where
  | running | ended | opened
  deriving DecidableEq, Repr

/-! ## The parts of a channel -/

/-- The ten configuration fields of a channel (R88). -/
structure ChanConfig where
  cls : ChanClass
  tripLevel : Fin 4
  tripDeglitch : Fin 4
  ocDeglitch : Fin 4
  openLoadCode : Fin 2
  autoWake : Bool
  wakeLimit : Nat
  /-- in mJ -/
  defaultForecast : Nat
  rampCode : Nat
  adaptation : Bool
  deriving DecidableEq, Repr

/-- The terminal status record (R116). -/
structure StatusRecord where
  band : Nat
  inUse : Bool
  charging : Bool
  alarm : Nat
  hours : Option Nat
  lastAnswer : Nat
  stale : Bool
  deriving DecidableEq, Repr

/-- The mailbox command (R85, R118). -/
structure Mailbox where
  cmd : DownCmd
  arg : Nat
  deriving DecidableEq, Repr

/-- The test context (R133). -/
structure TestContext where
  phase : TestPhase
  duration : Nat
  remaining : Nat
  bandBefore : Option Nat
  aborted : Bool
  deriving DecidableEq, Repr

/-- An exchange in flight (R103). `downlink` is the sixteen marks it puts on the line, first mark first (R107). -/
structure Exchange where
  cmd : DownCmd
  arg : Nat
  seq : Bool
  phase : ExchangePhase
  /-- the exchange start -/
  start : Nat
  downlink : List Bool
  /-- B, in mA (R108) -/
  baseline : Nat
  /-- the answer start instant, in µs (R108) -/
  answerStart : Option Nat
  /-- the marks received so far, first mark first (R109): the first 23 join as the milliseconds they close in close, the
  24th at the uplink end, which ends the exchange -/
  marks : List Bool
  deriving DecidableEq, Repr

/-- A switch-on in progress (R65, R67). -/
structure SwitchOn where
  rampEnd : Nat
  completion : Nat
  /-- whether it has completed (R70) -/
  completed : Bool
  /-- in mA -/
  peak : Nat
  adapt : Bool
  chopStart : Nat
  chopLength : Nat
  tripSeen : Bool
  deriving DecidableEq, Repr

/-- A feed switch (R65). -/
structure FeedSwitch where
  state : SwitchState
  rampCode : Nat
  switchOn : Option SwitchOn
  tripCount : Nat
  /-- the trip timer: clear, or running since an instant in µs -/
  tripTimer : Option Nat
  /-- the overcurrent timer: clear, or running since an instant in µs -/
  ocTimer : Option Nat
  openLoad : Nat
  /-- the last inrush peak, in mA -/
  lastPeak : Nat
  /-- MODEL'S OWN: the sensed current as last told, in mA, and 0 once the switch has opened (R73, R77 and R82 ask for it
  where the detectors are armed) -/
  sensed : Nat
  /-- MODEL'S OWN: the switch has been closed since the beginning of the current millisecond (R79) -/
  closedMs : Bool
  deriving DecidableEq, Repr

/-- The four quantities the measurement unit holds for a channel (R41), and whether it is sampling (R43). -/
structure Meter where
  residue : Nat
  /-- the slot accumulator s, in µJ -/
  acc : Nat
  sub : Nat
  totalMJ : Nat
  sampling : Bool
  deriving DecidableEq, Repr

/-- A channel: its record (R85), its switch, its meter and its line exchange unit (R103). -/
structure Channel where
  life : Life
  cause : StateCause
  line : LineResult
  pair : PairResult
  strikes : Nat
  cfg : ChanConfig
  /-- in µJ -/
  forecast : Nat
  attempts : Nat
  misses : Nat
  shed : Nat
  status : Option StatusRecord
  mailbox : Option Mailbox
  test : Option TestContext
  /-- the sequence bit -/
  seq : Bool
  /-- the exchange start point of the current slot, where one is placed -/
  placement : Option Nat
  exchange : Option Exchange
  sw : FeedSwitch
  meter : Meter
  /-- MODEL'S OWN: it entered WAKING or RESUMING since the last slot start (R39) -/
  entered : Bool
  /-- MODEL'S OWN: an exchange of it ended after the beginning of the current millisecond (R79) -/
  exchangeMs : Bool
  /-- MODEL'S OWN: the last sample event raised LOST, which has not reached the channel table yet (R80) -/
  lostDue : Bool
  deriving DecidableEq, Repr

/-! ## Roster, account, probes, edits -/

/-- A roster row (R12): `feed` is FEED, else QUIET. -/
structure Row where
  feed : Bool
  exchange : Bool
  members : List Chan
  deriving DecidableEq, Repr

/-- An entry of the admitted list (R21). -/
structure Entry where
  chan : Chan
  priority : Bool
  deriving DecidableEq, Repr

/-- The active layout (R1, R9). -/
structure Layout where
  slots : Nat
  /-- L, in ms -/
  len : Nat
  origin : Nat
  deriving DecidableEq, Repr

/-- The three global switch settings (R81). -/
structure Globals where
  chopCode : Fin 4
  /-- the inrush target T, in mA -/
  target : Nat
  gain : Nat
  deriving DecidableEq, Repr

/-- The grant (R48): `pending` and `latched` in mJ, the frame remainder `fr` in µJ. -/
structure Grant where
  pending : Nat
  unlimited : Bool
  life : Nat
  expiryReported : Bool
  latched : Nat
  fr : Nat
  deriving DecidableEq, Repr

/-- The six frame tallies (R57). -/
structure Tallies where
  spent : Nat
  drawn : Nat
  overdraw : Nat
  admitted : Nat
  shed : Nat
  busLow : Nat
  deriving DecidableEq, Repr

/-- An entry of the probe queue (R121): `pair` is a PAIR request, else LINE. -/
structure ProbeRequest where
  chan : Chan
  pair : Bool
  deriving DecidableEq, Repr

/-- The probe in progress (R121). -/
structure Probe where
  chan : Chan
  /-- the kind and, for PAIR only, the partner -/
  partner : Option Chan
  start : Nat
  stop : Nat
  deriving DecidableEq, Repr

/-- The content of an edit (R147). -/
inductive EditContent where
  | rowSet (row : RowIndex) (feed exchange : Bool) (members : List Chan)
  | rowAdd (row : RowIndex) (c : Chan)
  | rowDrop (row : RowIndex) (c : Chan)
  | channelConfig (c : Chan) (cfg : ChanConfig)
  | layout (l : Layout)
  | globals (g : Globals)
  | classHold (standard deferrable : Bool)
  | floors (floor alarmLevel : Nat)
  deriving DecidableEq, Repr

/-- An entry of the edit queue (R145). -/
structure Edit where
  poster : Port
  tag : Nat
  content : EditContent
  deriving DecidableEq, Repr

/-! ## Report records -/

/-- The status fields of a record (chapter 12.3). -/
structure StatusFields where
  band : Nat
  inUse : Bool
  charging : Bool
  alarm : Nat
  hours : Option Nat
  deriving DecidableEq, Repr

/-- The fields of each record kind (chapter 12.3). -/
inductive ReportBody where
  | feedState (on serviceVote energyVote : Bool) (changer : Port) (portReset : Bool)
  | busLow (v floor : Nat)
  | busOk (v floor : Nat)
  | frameSummary (latched : Nat) (t : Tallies) (reserve : Nat)
  | grantExpired (pending : Nat)
  | reserveLow (reserve level : Nat)
  | reserveOk (reserve level : Nat)
  | wakeResult (awake : Bool) (attempts firmware : Nat)
  | lost (cause : StateCause) (lastAnswer : Option Nat)
  | fault (cause : StateCause) (left : Life) (strikes : Nat) (partner : Option Chan)
  | mailboxDone (outcome : MailOutcome) (m : Mailbox) (payload : Nat) (fields : Option StatusFields)
  | statusChange (fields : StatusFields) (prior : Option (Bool × Nat))
  | testResult (outcome : TestOutcome) (phase : TestPhase) (duration framesRun : Nat) (bandBefore bandAfter estimate : Option Nat)
      (aborted : Bool) (refusedCode : Nat)
  | probeResult (pair : Bool) (partner : Option Chan) (outcome : ProbeOutcome) (reading : Option Nat)
  | editReject (tag : Nat) (kind : EditKind) (reason : RejectReason) (row : RowIndex)
  deriving DecidableEq, Repr

/-- A report record (R172). -/
structure Report where
  frame : Nat
  slot : Nat
  afterLoss : Bool
  chan : Option Chan
  body : ReportBody
  deriving DecidableEq, Repr

/-! ## The ports -/

/-- A set of the four causes (R176). -/
structure CauseSet where
  level : Bool
  loss : Bool
  frame : Bool
  voteLost : Bool
  deriving DecidableEq, Repr

/-- A reply (R157): the code it names, the outcome, the result words. -/
structure Reply where
  code : Byte
  outcome : ReplyCode
  words : List Word
  deriving DecidableEq, Repr

/-- The table pointer (R157). -/
structure Pointer where
  table : Table
  index : Nat
  dir : Direction
  offset : Nat
  deriving DecidableEq, Repr

/-- What each port holds (R157, R172, R176 to R178). The cause LEVEL is not latched: it is computed from the occupancy
and the watermark (`PortState.causes` in Machine/Flags.lean). -/
structure PortState where
  vote : Bool
  reply : Option Reply
  pointer : Pointer
  /-- the record latch: the words of the record it holds -/
  latch : Option (List Word)
  queue : List Report
  lossMark : Bool
  lossCause : Bool
  frameCause : Bool
  voteLostCause : Bool
  mask : CauseSet
  watermark : Nat
  tagCounter : Nat
  deriving DecidableEq, Repr

/-- A service-port transaction (R158 to R161): the words taken so far, whether its command has executed or been refused,
and what is left of the outgoing reply. -/
structure ServiceTransaction where
  words : List Word
  done : Bool
  outgoing : List Word
  deriving DecidableEq, Repr

/-- What the energy port is doing on its bus (R162): `write n` has taken n bytes. -/
inductive BusState where
  | idle
  | write (bytes : Nat)
  | read
  deriving DecidableEq, Repr

/-- The byte assembly (R163): phase COMMAND when `cmd` is absent, else phase ARGUMENT with the command byte, the words
completed and the bytes of the word in progress. `lone` is a STATUS code that opened a write in phase ARGUMENT: whether it
is the STATUS command or an argument byte is known only when the write goes on or ends (R164). -/
structure Assembly where
  cmd : Option Byte
  words : List Word
  part : List Byte
  lone : Bool
  deriving DecidableEq, Repr

/-! ## The machine -/

/-- Why the block would stop. NOTHING: every command of the manual has an effect or leaves the state as it stands, so
there is no constructor and no step answers a fault. -/
inductive Fault where
  deriving DecidableEq, Repr

/-- Why a command has no meaning in the model. -/
inductive Refusal where
  /-- Raised by an arm of exec whose command has no meaning yet. Safe: the model stops. No arm raises it. -/
  | notModelled (mnemonic : String)
  deriving DecidableEq, Repr

/-- The whole state of the block and the queue of the commands that wait. -/
structure State where
  /-- the commands that wait, first in first out -/
  pending : List Instr
  /-- device reset holds (R2, R171) -/
  inReset : Bool
  /-- MODEL'S OWN: milliseconds closed since the release of device reset -/
  ms : Nat
  layout : Layout
  frame : Nat
  slotIndex : Nat
  rotor : Nat
  slotTime : Nat
  phase : SlotPhase
  roster : Vector Row 32
  feedOn : Bool
  admitted : List Entry
  busLow : Bool
  holdStandard : Bool
  holdDeferrable : Bool
  /-- the latest bus sample v -/
  busSample : Nat
  grant : Grant
  /-- the reserve RP, in µJ -/
  reserve : Nat
  /-- the reserve alarm level, in mJ -/
  alarmLevel : Nat
  /-- the bus floor, in units of 10 mV -/
  floor : Nat
  tallies : Tallies
  channels : Vector Channel 24
  globals : Globals
  probeQueue : List ProbeRequest
  /-- the probe in progress; the engine is BUSY while there is one -/
  probe : Option Probe
  /-- the waiting mark -/
  waiting : Bool
  edits : List Edit
  service : PortState
  energy : PortState
  /-- the service-port transaction in progress, while nSEL is low -/
  transaction : Option ServiceTransaction
  /-- the last word SDO carried in the transaction; none while it is high impedance -/
  sdo : Option Word
  /-- the straps ADR1 and ADR0 as read at the release of device reset -/
  strap1 : Bool
  strap0 : Bool
  bus : BusState
  assembly : Assembly
  /-- the read position within the energy port's pending reply, in bytes -/
  readPos : Nat
  /-- the last byte the energy port sent on SDA -/
  sda : Byte
  /-- whether the energy port acknowledged the last byte written or addressed to it -/
  ackOut : Bool
  /-- MODEL'S OWN: CHANNEL records latched so far, the argument of the free values -/
  freeCount : Nat
  deriving DecidableEq, Repr

/-! ## The values after device reset -/

/-- The default configuration (R88). -/
def ChanConfig.default : ChanConfig :=
  { cls := .standard, tripLevel := 1, tripDeglitch := 1, ocDeglitch := 1, openLoadCode := 0, autoWake := false,
    wakeLimit := 3, defaultForecast := 2000, rampCode := 3, adaptation := true }

/-- A feed switch after device reset (R65). -/
def FeedSwitch.reset : FeedSwitch :=
  { state := .opened, rampCode := 3, switchOn := none, tripCount := 0, tripTimer := none, ocTimer := none,
    openLoad := 0, lastPeak := 0, sensed := 0, closedMs := false }

/-- A channel's meter after device reset (R41). -/
def Meter.reset : Meter := { residue := 0, acc := 0, sub := 0, totalMJ := 0, sampling := false }

/-- A channel after device reset (R85, R103, R65, R41). -/
def Channel.reset : Channel :=
  { life := .dark, cause := .noCause, line := .unknown, pair := .untested, strikes := 0, cfg := .default,
    forecast := 2000000, attempts := 0, misses := 0, shed := 0, status := none, mailbox := none, test := none,
    seq := false, placement := none, exchange := none, sw := .reset, meter := .reset, entered := false,
    exchangeMs := false, lostDue := false }

/-- The six tallies at 0 (R57). -/
def Tallies.zero : Tallies := { spent := 0, drawn := 0, overdraw := 0, admitted := 0, shed := 0, busLow := 0 }

/-- A set of causes with nothing in it. -/
def CauseSet.none : CauseSet := { level := false, loss := false, frame := false, voteLost := false }

/-- The table pointer at ROSTER, 0, UP, word offset 0 (R157). -/
def Pointer.reset : Pointer := { table := .roster, index := 0, dir := .up, offset := 0 }

/-- A port after device reset (R157, R172, R176 to R178). -/
def PortState.reset : PortState :=
  { vote := false, reply := none, pointer := .reset, latch := none, queue := [], lossMark := false, lossCause := false,
    frameCause := false, voteLostCause := false, mask := .none, watermark := 1, tagCounter := 0 }

/-- The byte assembly in phase COMMAND with nothing held (R163). -/
def Assembly.reset : Assembly := { cmd := none, words := [], part := [], lone := false }

/-- The block right after device reset, which still holds: RESET_RELEASE opens frame 0 (R2). Each block's values are
those its own chapter gives: R2, R18, R21, R41, R48, R52, R54, R57, R60, R65, R81, R85, R103, R121, R145, R157, R172. -/
def State.reset : State :=
  { pending := [], inReset := true, ms := 0, layout := { slots := 24, len := 100, origin := 0 }, frame := 0,
    slotIndex := 0, rotor := 0, slotTime := 0, phase := .running,
    roster := Vector.replicate 32 { feed := false, exchange := false, members := [] },
    feedOn := false, admitted := [], busLow := false, holdStandard := false, holdDeferrable := false, busSample := 0,
    grant := { pending := 0, unlimited := false, life := 0, expiryReported := true, latched := 0, fr := 0 },
    reserve := 0, alarmLevel := 0, floor := 0, tallies := .zero, channels := Vector.replicate 24 .reset,
    globals := { chopCode := 1, target := 300, gain := 1 }, probeQueue := [], probe := none, waiting := false,
    edits := [], service := .reset, energy := .reset, transaction := none, sdo := none, strap1 := false,
    strap0 := false, bus := .idle, assembly := .reset, readPos := 0, sda := 0, ackOut := false, freeCount := 0 }

end Sys2Proof.Machine
end

