-- ==== Sys2Proof/Machine/Tables.lean ====
section
/-! DEFINITION. The figures of the manual's tables: times, levels, limits and capacities. -/

namespace Sys2Proof.Machine

/-- The other port. -/
def otherPort : Port → Port
  | .service => .energy
  | .energy => .service

/-- How many records a port's report queue holds (R172). -/
def queueCapacity : Port → Nat
  | .service => 48
  | .energy => 16

/-- How many entries the edit queue holds (R145). -/
def editCapacity : Nat := 16

/-- How many entries the probe queue holds (R121). -/
def probeCapacity : Nat := 32

/-- The pair partner: channels 2k and 2k+1 (chapter "Quantities"). -/
def partnerOf (c : Chan) : Chan :=
  if c.val % 2 = 0 then ⟨(c.val + 1) % 24, Nat.mod_lt _ (by decide)⟩ else ⟨c.val - 1, Nat.lt_of_le_of_lt (Nat.sub_le _ _) c.isLt⟩

/-- The powered states (R86). -/
def powered : Life → Bool
  | .waking | .fed | .resuming => true
  | .dark | .testing | .faulted | .retired => false

/-- Ramp time in ms by ramp code (R67). -/
def rampTime : Nat → Nat
  | 0 => 1
  | 1 => 2
  | 2 => 4
  | 3 => 6
  | 4 => 8
  | 5 => 12
  | 6 => 16
  | _ => 24

/-- From the ramp end to the completion instant, in ms (R67). -/
def completionDelay : Nat := 5

/-- Chop period in ms by code (R74). -/
def chopPeriod : Fin 4 → Nat
  | 0 => 5
  | 1 => 10
  | 2 => 20
  | 3 => 40

/-- Trip level in mA by code (R73). -/
def tripLevelMA : Fin 4 → Nat
  | 0 => 150
  | 1 => 250
  | 2 => 350
  | 3 => 500

/-- Trip deglitch time in µs by code (R73). -/
def tripDeglitchUs : Fin 4 → Nat
  | 0 => 500
  | 1 => 1000
  | 2 => 2000
  | 3 => 4000

/-- The overcurrent level in mA (R77). -/
def overcurrentMA : Nat := 800

/-- Overcurrent deglitch time in µs by code (R77). -/
def ocDeglitchUs : Fin 4 → Nat
  | 0 => 50
  | 1 => 100
  | 2 => 200
  | 3 => 400

/-- The trip count at which LIMIT is handed to the channel table (R76). -/
def tripLimit : Nat := 8

/-- A reading below this many mA is a low reading (R79). -/
def lowReading : Nat := 5

/-- The open-load count limit N (R80): by the code in FED, 40 in RESUMING. -/
def openLoadLimit (life : Life) (code : Fin 2) : Nat :=
  if life = .resuming then 40 else if code = 0 then 40 else 160

/-- The settle time in ms before an exchange (R104). -/
def settleTime (life : Life) : Nat := if life = .waking then 50 else 10

/-- The least time in ms from an exchange start point to the slot end (R104). -/
def exchangeRoom : Nat := 100

/-- From the exchange start to the downlink end, in ms (R107). -/
def downlinkTime : Nat := 32

/-- From the exchange start to the window expiry, in ms (R108). -/
def windowTime : Nat := 52

/-- From the answer start instant to the uplink end, in µs (R109). -/
def uplinkUs : Nat := 48000

/-- How long a mark lasts, in µs (R107, R109). -/
def markUs : Nat := 2000

/-- How many marks of an uplink close before its last (R109). -/
def marksBeforeLast : Nat := 23

/-- How long the current stands before an answer has begun, in µs (R108). -/
def answerHoldUs : Nat := 500

/-- How far above the baseline a load stands, in mA (R108, R109). -/
def loadStep : Nat := 10

/-- The shortest slot in ms in which a WAKING member is eligible (R29). -/
def wakeSlot : Nat := 160

/-- The misses that make a channel silent (R92). -/
def silentMisses : Nat := 3

/-- The strikes at which CLEAR_FAULT is refused with LOCKED (R98). -/
def lockStrikes : Nat := 3

/-- How long a probe lasts, in ms (R125). -/
def probeTime (pair : Bool) : Nat := if pair then 30 else 20

/-- The cap of the reserve in µJ (R52). -/
def reserveCap : Nat := 4000000000

/-- The largest grant in mJ (R49). -/
def grantCap : Nat := 1000000

/-- The largest deposit and alarm level in mJ (R52, R54). -/
def depositCap : Nat := 4000000

/-- Where a 32-bit tally or total saturates (R47, R57). -/
def wordMax : Nat := 4294967295

/-- Where a shed count saturates (R34). -/
def shedMax : Nat := 65535

/-- Where the bus reading saturates (R42). -/
def busMax : Nat := 6000

/-- Where a current reading saturates (R43). -/
def currentMax : Nat := 1023

end Sys2Proof.Machine
end

