-- ==== Sys2Proof/Machine/Operands.lean ====
section
/-! DEFINITION. The operand forms: the command codes, the fields of argument words, the edits a POST carries (chapter
12.2), and the marks of line messages with their check (chapter 12.1, R111). -/

namespace Sys2Proof.Machine

/-! ## Fields of words -/

/-- Bits hi down to lo of a word, as a number. -/
def bits (hi lo : Nat) (w : Word) : Nat := (w.extractLsb' lo (hi + 1 - lo)).toNat

/-- One bit of a word. -/
def flag (i : Nat) (w : Word) : Bool := w.getLsbD i

/-- A value placed in a field of `width` bits whose lowest bit is `lo`. -/
def place (width lo v : Nat) : Nat := v % 2 ^ width * 2 ^ lo

/-- A flag placed at a bit. -/
def placeFlag (lo : Nat) (b : Bool) : Nat := if b then 2 ^ lo else 0

/-- The word made of disjoint fields; every bit no field names is 0 (R180). -/
def wordOf (fields : List Nat) : Word := BitVec.ofNat 32 fields.sum

/-- The four bytes of a word, most significant first (R165). -/
def bytesOf (w : Word) : List Byte :=
  [w.extractLsb' 24 8, w.extractLsb' 16 8, w.extractLsb' 8 8, w.extractLsb' 0 8]

/-- The word made of four bytes, the first the most significant (R163). -/
def wordOfBytes (a b c d : Byte) : Word := BitVec.ofNat 32 (((a.toNat * 256 + b.toNat) * 256 + c.toNat) * 256 + d.toNat)

/-- A channel number, if it lies in 0..23. -/
def chanOf (n : Nat) : Option Chan := if h : n < 24 then some ⟨n, h⟩ else none

/-- A roster row number, if it lies in 0..31. -/
def rowOf (n : Nat) : Option RowIndex := if h : n < 32 then some ⟨n, h⟩ else none

/-- A code of four values, if it lies in 0..3. -/
def fin4Of (n : Nat) : Option (Fin 4) := if h : n < 4 then some ⟨n, h⟩ else none

/-! ## Commands -/

/-- The command set (R166). -/
inductive Cmd where
  | nop | status | seek | read | take | ack | mask | watermark | vote | resetPort | post | cancelEdits
  | probe | wake | retire | release | clearFault | test | abortTest | send
  | setGrant | deposit | drain
  deriving DecidableEq, Repr

/-- Command codes (chapter 12.2). -/
def Cmd.code : Cmd → Byte
  | .nop => 0x00
  | .status => 0x01
  | .seek => 0x02
  | .read => 0x03
  | .take => 0x04
  | .ack => 0x05
  | .mask => 0x06
  | .watermark => 0x07
  | .vote => 0x08
  | .resetPort => 0x09
  | .post => 0x0A
  | .cancelEdits => 0x0B
  | .probe => 0x10
  | .wake => 0x11
  | .retire => 0x12
  | .release => 0x13
  | .clearFault => 0x14
  | .test => 0x15
  | .abortTest => 0x16
  | .send => 0x17
  | .setGrant => 0x20
  | .deposit => 0x21
  | .drain => 0x22

/-- Every command. -/
def Cmd.all : List Cmd :=
  [.nop, .status, .seek, .read, .take, .ack, .mask, .watermark, .vote, .resetPort, .post, .cancelEdits, .probe, .wake,
    .retire, .release, .clearFault, .test, .abortTest, .send, .setGrant, .deposit, .drain]

/-- The command a code names, if it names one (R159). -/
def Cmd.ofCode (b : Byte) : Option Cmd := Cmd.all.find? fun c => c.code = b

/-- How many argument words a command takes (R166). -/
def Cmd.argWords : Cmd → Nat
  | .nop | .status | .take | .resetPort | .cancelEdits | .drain => 0
  | .post => 2
  | .seek | .read | .ack | .mask | .watermark | .vote | .probe | .wake | .retire | .release | .clearFault | .test
  | .abortTest | .send | .setGrant | .deposit => 1

/-- Which port may issue a command (R166). -/
def Cmd.permitted : Cmd → Port → Bool
  | .probe, p | .wake, p | .retire, p | .release, p | .clearFault, p | .test, p | .abortTest, p | .send, p => p = .service
  | .setGrant, p | .deposit, p | .drain, p => p = .energy
  | .nop, _ | .status, _ | .seek, _ | .read, _ | .take, _ | .ack, _ | .mask, _ | .watermark, _ | .vote, _
  | .resetPort, _ | .post, _ | .cancelEdits, _ => true

/-- The code of a service-port command word (chapter 12.2): bits 31–24. -/
def commandByte (w : Word) : Byte := w.extractLsb' 24 8

/-! ## Argument words -/

/-- A cause set in bits 3–0 (chapter 12.2). -/
def causesOfWord (w : Word) : CauseSet :=
  { level := flag 0 w, loss := flag 1 w, frame := flag 2 w, voteLost := flag 3 w }

/-- Table codes. -/
def tableOf : Nat → Option Table
  | 0 => some .roster
  | 1 => some .channel
  | 2 => some .account
  | 3 => some .probeQueue
  | _ => none

/-- Direction codes. -/
def directionOf : Nat → Option Direction
  | 0 => some .up
  | 1 => some .down
  | _ => none

/-- How many records a table has (R168). -/
def tableRecords : Table → Nat
  | .roster => 32
  | .channel => 24
  | .account => 1
  | .probeQueue => 32

/-- How many words a record of a table has (R168). -/
def recordWords : Table → Nat
  | .roster => 2
  | .channel => 8
  | .account => 8
  | .probeQueue => 1

/-- Class codes (chapter 12.4). -/
def classOf : Nat → Option ChanClass
  | 0 => some .emergency
  | 1 => some .standard
  | 2 => some .deferrable
  | _ => none

/-- The downlink commands SEND may carry, by code (R118). -/
def sendCmdOf : Nat → Option DownCmd
  | 3 => some .query
  | 6 => some .doze
  | 8 => some (.aux 0)
  | 9 => some (.aux 1)
  | 10 => some (.aux 2)
  | 11 => some (.aux 3)
  | _ => none

/-- Downlink command codes (R106). -/
def DownCmd.code : DownCmd → Nat
  | .wake => 1
  | .keep => 2
  | .query => 3
  | .beginTest => 4
  | .resultQuery => 5
  | .doze => 6
  | .aux n => 8 + n.val

/-- A configuration word (CHANNEL word 5), if each field is in its range of R88. -/
def configOfWord (w : Word) : Option ChanConfig :=
  match classOf (bits 31 30 w) with
  | none => none
  | some cls =>
    if 1 ≤ bits 17 15 w ∧ bits 13 0 w ≤ 10000 then
      some { cls := cls, tripLevel := Fin.ofNat 4 (bits 29 28 w), tripDeglitch := Fin.ofNat 4 (bits 27 26 w),
             ocDeglitch := Fin.ofNat 4 (bits 25 24 w), openLoadCode := Fin.ofNat 2 (bits 23 23 w), autoWake := flag 22 w,
             wakeLimit := bits 17 15 w, defaultForecast := bits 13 0 w, rampCode := bits 20 18 w, adaptation := flag 21 w }
    else none

/-- Every channel of a list of numbers, if each is one. -/
def chansOf : List Nat → Option (List Chan)
  | [] => some []
  | n :: rest =>
    match chanOf n, chansOf rest with
    | some c, some cs => some (c :: cs)
    | _, _ => none

/-- Edit kind codes (chapter 12.2). -/
def editKindOf : Nat → Option EditKind
  | 0 => some .rowSet
  | 1 => some .rowAdd
  | 2 => some .rowDrop
  | 3 => some .channelConfig
  | 4 => some .layout
  | 5 => some .globals
  | 6 => some .classHold
  | 7 => some .floors
  | _ => none

/-- The port that may post an edit kind (R147). -/
def editPoster : EditKind → Port
  | .rowSet | .rowAdd | .rowDrop | .channelConfig | .layout | .globals => .service
  | .classHold | .floors => .energy

/-- The content a POST carries, if it passes the post-time checks of R147. -/
def editOfWords (k : EditKind) (w1 w2 : Word) : Option EditContent :=
  match k with
  | .rowSet =>
    let n := bits 10 8 w1
    match rowOf (bits 23 16 w1), chansOf ([bits 31 24 w2, bits 23 16 w2, bits 15 8 w2, bits 7 0 w2].take n) with
    | some r, some ms => if n ≤ 4 ∧ ms.Nodup then some (.rowSet r (flag 15 w1) (flag 14 w1) ms) else none
    | _, _ => none
  | .rowAdd =>
    match rowOf (bits 23 16 w1), chanOf (bits 15 8 w1) with
    | some r, some c => some (.rowAdd r c)
    | _, _ => none
  | .rowDrop =>
    match rowOf (bits 23 16 w1), chanOf (bits 15 8 w1) with
    | some r, some c => some (.rowDrop r c)
    | _, _ => none
  | .channelConfig =>
    match chanOf (bits 23 16 w1), configOfWord w2 with
    | some c, some cfg => some (.channelConfig c cfg)
    | _, _ => none
  | .layout =>
    let l : Layout := { slots := bits 23 16 w1, len := bits 15 0 w2, origin := bits 15 8 w1 }
    if 4 ≤ l.slots ∧ l.slots ≤ 32 ∧ 20 ≤ l.len ∧ l.len ≤ 500 ∧ l.len % 10 = 0 ∧ l.origin ≤ 31 then some (.layout l) else none
  | .globals =>
    let t := bits 31 16 w2
    match fin4Of (bits 23 16 w1) with
    | some code =>
      if 100 ≤ t ∧ t ≤ 800 ∧ t % 50 = 0 ∧ 1 ≤ bits 7 0 w2 ∧ bits 7 0 w2 ≤ 3 then
        some (.globals { chopCode := code, target := t, gain := bits 7 0 w2 })
      else none
    | none => none
  | .classHold => if flag 0 w1 then none else some (.classHold (flag 1 w1) (flag 2 w1))
  | .floors =>
    if bits 15 0 w1 ≤ busMax ∧ bits 31 0 w2 ≤ depositCap then some (.floors (bits 15 0 w1) (bits 31 0 w2)) else none

/-! ## Marks -/

/-- The marks of a field of `width` marks, most significant first (R107). -/
def marksOf : (width : Nat) → Nat → List Bool
  | 0, _ => []
  | k + 1, v => v.testBit k :: marksOf k v

/-- The value of a field's marks, most significant first. -/
def valueOf (ms : List Bool) : Nat := ms.foldl (fun v m => 2 * v + m.toNat) 0

/-- One mark of the check computation (R111): the feedback, the shift, the inversion of the two least significant marks. -/
def checkStep (r : BitVec 4) (m : Bool) : BitVec 4 :=
  if m = r.getLsbD 3 then r <<< 1 else (r <<< 1) ^^^ 3

/-- The check of the marks between a preamble and the check field (R111). -/
def checkOf (ms : List Bool) : BitVec 4 := ms.foldl checkStep 0

/-- The sixteen marks of a downlink (R107, chapter 12.1). -/
def downlinkMarks (cmd : DownCmd) (arg : Nat) (seq : Bool) : List Bool :=
  let body := marksOf 4 cmd.code ++ marksOf 4 arg ++ [seq]
  [true, false] ++ body ++ marksOf 4 (checkOf body).toNat ++ [false]

/-- Answer kind codes (chapter 12.1). -/
def answerKindOf : Nat → Option AnswerKind
  | 1 => some .hello
  | 2 => some .status
  | 3 => some .ack
  | 4 => some .nak
  | 5 => some .result
  | _ => none

/-- The fields of an uplink (R109, chapter 12.1). -/
structure Answer where
  kind : AnswerKind
  band : Nat
  inUse : Bool
  charging : Bool
  alarm : Nat
  payload : Nat
  deriving DecidableEq, Repr

/-- The answer that 24 marks carry, or nothing where they are CORRUPT for the sequence value sent (R113, test 1). -/
def answerOfMarks (seq : Bool) (ms : List Bool) : Option Answer :=
  let checked := (ms.drop 2).take 18
  match answerKindOf (valueOf (checked.take 3)) with
  | none => none
  | some kind =>
    if ms.take 2 = [true, true] ∧ valueOf (ms.drop 20) = (checkOf checked).toNat ∧ checked.getD 17 false = seq then
      some { kind := kind, band := valueOf ((checked.drop 3).take 4), inUse := checked.getD 7 false,
             charging := checked.getD 8 false, alarm := valueOf ((checked.drop 9).take 3),
             payload := valueOf ((checked.drop 12).take 5) }
    else none

/-- The kinds a command sent expects (R113). -/
def expects : DownCmd → AnswerKind → Bool
  | .wake, k => k = .hello
  | .keep, k | .query, k => k = .status
  | .beginTest, k | .doze, k | .aux _, k => k = .ack || k = .nak
  | .resultQuery, k => k = .result

end Sys2Proof.Machine
end

