-- ==== Sys2Proof/Machine/Flags.lean ====
section
/-! DEFINITION. The notification causes, the notification lines and the status words computed from the state (chapter
11.3, R165, R167). -/

namespace Sys2Proof.Machine

/-- The state of one port. -/
def portOf (s : State) : Port → PortState
  | .service => s.service
  | .energy => s.energy

/-- LEVEL (R176): it follows the occupancy of the port's queue against its watermark. -/
def levelCause (ps : PortState) : Bool := decide (ps.watermark ≤ ps.queue.length)

/-- The causes set at a port (R176). -/
def causesOf (ps : PortState) : CauseSet :=
  { level := levelCause ps, loss := ps.lossCause, frame := ps.frameCause, voteLost := ps.voteLostCause }

/-- Whether a port's notification line is asserted, driven low (R178): some cause is both set and unmasked. -/
def attention (ps : PortState) : Bool :=
  let c := causesOf ps
  (c.level && ps.mask.level) || (c.loss && ps.mask.loss) || (c.frame && ps.mask.frame) || (c.voteLost && ps.mask.voteLost)

/-- The SATTN output: true while driven low. -/
def sattn (s : State) : Bool := attention s.service

/-- The EATTN output: true while driven low. -/
def eattn (s : State) : Bool := attention s.energy

/-- A cause set in four bits, LEVEL lowest (chapter 12.2). -/
def causeBits (c : CauseSet) : Nat :=
  placeFlag 0 c.level + placeFlag 1 c.loss + placeFlag 2 c.frame + placeFlag 3 c.voteLost

/-- A port's status word (R167, chapter 12.2). -/
def statusWord (s : State) (p : Port) : Word :=
  let ps := portOf s p
  wordOf [placeFlag 31 s.feedOn, placeFlag 30 ps.vote, place 5 16 s.edits.length, place 6 8 ps.queue.length,
    place 4 4 (causeBits ps.mask), place 4 0 (causeBits (causesOf ps))]

/-- Whether the byte assembly holds argument bytes (R165). -/
def assemblyHolds (a : Assembly) : Bool := a.cmd.isSome && (!a.words.isEmpty || !a.part.isEmpty)

/-- The energy port's status byte (R165, chapter 12.2). -/
def portStatusByte (s : State) : Byte :=
  BitVec.ofNat 8 (placeFlag 7 s.energy.reply.isSome + placeFlag 6 s.assembly.cmd.isSome
    + placeFlag 5 (assemblyHolds s.assembly) + placeFlag 4 s.feedOn + placeFlag 3 (eattn s))

end Sys2Proof.Machine
end

