-- ==== Sys2Proof/Machine/Formats.lean ====
section
/-! DEFINITION. The words of replies, report records and table-window records (chapters 12.2 to 12.4). -/

namespace Sys2Proof.Machine

/-! ## Codes -/

/-- Channel state codes (chapter 12.2). -/
def Life.code : Life → Nat
  | .dark => 0
  | .waking => 1
  | .fed => 2
  | .testing => 3
  | .resuming => 4
  | .faulted => 5
  | .retired => 6

/-- State-cause codes (chapter 12.3). -/
def StateCause.code : StateCause → Nat
  | .noCause => 0
  | .silent => 1
  | .openLoad => 2
  | .dozed => 3
  | .wakeFailed => 4
  | .cleared => 5
  | .released => 6
  | .overcurrent => 7
  | .limit => 8
  | .short => 9
  | .foreign => 10
  | .crossed => 11

/-- Line result codes (chapter 12.4). -/
def LineResult.code : LineResult → Nat
  | .unknown => 0
  | .openLine => 1
  | .signature => 2
  | .short => 3
  | .foreign => 4

/-- Pair result codes (chapter 12.4). -/
def PairResult.code : PairResult → Nat
  | .untested => 0
  | .clear => 1
  | .crossed => 2

/-- Class codes (chapter 12.4). -/
def ChanClass.code : ChanClass → Nat
  | .emergency => 0
  | .standard => 1
  | .deferrable => 2

/-- Switch state codes (chapter 12.4). -/
def SwitchState.code : SwitchState → Nat
  | .opened => 0
  | .ramping => 1
  | .on => 2
  | .chopOff => 3

/-- Test phase codes (chapter 12.3). -/
def TestPhase.code : TestPhase → Nat
  | .requested => 0
  | .running => 1
  | .resuming => 2

/-- Test outcome codes (chapter 12.3). -/
def TestOutcome.code : TestOutcome → Nat
  | .complete => 0
  | .refused => 1
  | .aborted => 2
  | .noAnswer => 3
  | .lost => 4
  | .faulted => 5
  | .retired => 6

/-- Mailbox outcome codes (chapter 12.3). -/
def MailOutcome.code : MailOutcome → Nat
  | .acked => 0
  | .naked => 1
  | .answered => 2
  | .dropped => 3

/-- Probe outcome codes (chapter 12.3). -/
def ProbeOutcome.code : ProbeOutcome → Nat
  | .short => 0
  | .signature => 1
  | .openLine => 2
  | .foreign => 3
  | .clear => 4
  | .crossed => 5
  | .cancelled => 6
  | .notQueued => 7

/-- Edit kind codes (chapter 12.2). -/
def EditKind.code : EditKind → Nat
  | .rowSet => 0
  | .rowAdd => 1
  | .rowDrop => 2
  | .channelConfig => 3
  | .layout => 4
  | .globals => 5
  | .classHold => 6
  | .floors => 7

/-- Reject reason codes (chapter 12.3). -/
def RejectReason.code : RejectReason → Nat
  | .rowFull => 0
  | .alreadyMember => 1
  | .notMember => 2

/-- Reply outcome codes (chapter 12.2). -/
def ReplyCode.code : ReplyCode → Nat
  | .done => 0
  | .notPermitted => 1
  | .badArgument => 2
  | .wrongState => 3
  | .queueFull => 4
  | .mailboxBusy => 5
  | .locked => 6
  | .empty => 7

/-- Report kind codes (chapter 12.3). -/
def reportCode : ReportBody → Nat
  | .feedState .. => 1
  | .busLow .. => 2
  | .busOk .. => 3
  | .frameSummary .. => 4
  | .grantExpired .. => 5
  | .reserveLow .. => 6
  | .reserveOk .. => 7
  | .wakeResult .. => 8
  | .lost .. => 9
  | .fault .. => 10
  | .mailboxDone .. => 11
  | .statusChange .. => 12
  | .testResult .. => 13
  | .probeResult .. => 14
  | .editReject .. => 15

/-! ## Replies -/

/-- The word of a transaction that begins with no pending reply (chapter 12.2). -/
def emptyReplyWord : Word := 0xFF000000

/-- The word shifted after the last word of a reply (chapter 12.2). -/
def idleWord : Word := 0xFFFFFFFF

/-- The reply status word (chapter 12.2). -/
def replyStatusWord (r : Reply) : Word :=
  wordOf [place 8 24 r.code.toNat, place 8 16 r.outcome.code, place 8 8 r.words.length]

/-- A reply's words: the reply status word, then the result words. -/
def replyWords (r : Reply) : List Word := replyStatusWord r :: r.words

/-! ## Report records -/

/-- The status fields of a record (chapter 12.3), laid out as bits 29–15 of CHANNEL word 6; hours are 0 when not present
(R180). -/
def statusBits (f : StatusFields) : List Nat :=
  [place 4 26 f.band, placeFlag 25 f.inUse, placeFlag 24 f.charging, place 3 21 f.alarm, placeFlag 20 f.hours.isSome,
    place 5 15 (f.hours.getD 0)]

/-- A band field with its presence bit (chapter 12.3, TEST_RESULT word 2). -/
def presentBits (presence width lo : Nat) (v : Option Nat) : List Nat :=
  [placeFlag presence v.isSome, place width lo (v.getD 0)]

/-- The words of a record after word 0 (chapter 12.3). -/
def bodyWords : ReportBody → List Word
  | .feedState on sv ev changer portReset =>
    [wordOf [placeFlag 31 on, placeFlag 30 sv, placeFlag 29 ev, placeFlag 24 (changer = .energy), placeFlag 16 portReset]]
  | .busLow v fl => [wordOf [place 16 16 v, place 16 0 fl]]
  | .busOk v fl => [wordOf [place 16 16 v, place 16 0 fl]]
  | .frameSummary latched t rp =>
    [wordOf [latched], wordOf [t.spent], wordOf [t.drawn], wordOf [t.overdraw],
      wordOf [place 8 24 t.admitted, place 8 16 t.shed, place 8 8 t.busLow], wordOf [rp]]
  | .grantExpired g => [wordOf [g]]
  | .reserveLow rp level => [wordOf [rp], wordOf [level]]
  | .reserveOk rp level => [wordOf [rp], wordOf [level]]
  | .wakeResult awake attempts firmware =>
    [wordOf [place 8 24 (if awake then 0 else 1), place 8 16 attempts, place 8 0 firmware]]
  | .lost cause last => [wordOf [place 8 24 cause.code, placeFlag 16 last.isSome, place 16 0 (last.getD 0)]]
  | .fault cause left strikes partner =>
    [wordOf [place 8 24 cause.code, place 8 16 left.code, place 8 8 strikes,
      place 8 0 (match partner with | some c => c.val | none => 0xFF)]]
  | .mailboxDone outcome m payload fields =>
    [wordOf [place 8 24 outcome.code, place 8 16 m.cmd.code, place 8 8 m.arg, place 8 0 payload],
      wordOf (match fields with | some f => statusBits f | none => [])]
  | .statusChange f prior =>
    [wordOf (statusBits f ++ [placeFlag 2 prior.isNone, placeFlag 1 (match prior with | some (u, _) => u | none => false)]),
      wordOf [place 3 0 (match prior with | some (_, a) => a | none => 0)]]
  | .testResult outcome phase duration framesRun before after estimate aborted refused =>
    [wordOf [place 8 24 outcome.code, place 8 16 phase.code, place 4 12 duration, place 4 8 framesRun, placeFlag 0 aborted],
      wordOf (presentBits 31 4 24 before ++ presentBits 23 4 16 after ++ presentBits 15 5 8 estimate ++ [place 8 0 refused])]
  | .probeResult pair partner outcome reading =>
    [wordOf [placeFlag 31 pair, place 5 24 (match partner with | some c => c.val | none => 31), place 8 16 outcome.code,
      place 16 0 (reading.getD 0xFFFF)]]
  | .editReject tag kind reason row =>
    [wordOf [place 16 16 tag, place 4 12 kind.code, place 4 8 reason.code, place 5 0 row.val]]

/-- A record's words (chapter 12.3). -/
def reportWords (r : Report) : List Word :=
  wordOf [place 16 16 r.frame, place 5 11 r.slot, placeFlag 10 r.afterLoss,
    place 5 5 (match r.chan with | some c => c.val | none => 31), place 5 0 (reportCode r.body)] :: bodyWords r.body

/-! ## Table-window records -/

/-- A member byte of ROSTER word 1 (chapter 12.4): FFh where the list has no such member. -/
def memberByte (ms : List Chan) (i : Nat) : Nat :=
  match ms[i]? with
  | some c => c.val
  | none => 0xFF

/-- The two words of a ROSTER record. -/
def rosterWords (r : Row) : List Word :=
  [wordOf [placeFlag 31 r.feed, placeFlag 30 r.exchange, place 3 24 r.members.length],
    wordOf [place 8 24 (memberByte r.members 0), place 8 16 (memberByte r.members 1), place 8 8 (memberByte r.members 2),
      place 8 0 (memberByte r.members 3)]]

/-- A configuration word (CHANNEL word 5). -/
def configWord (c : ChanConfig) : Word :=
  wordOf [place 2 30 c.cls.code, place 2 28 c.tripLevel.val, place 2 26 c.tripDeglitch.val, place 2 24 c.ocDeglitch.val,
    place 1 23 c.openLoadCode.val, placeFlag 22 c.autoWake, placeFlag 21 c.adaptation, place 3 18 c.rampCode,
    place 3 15 c.wakeLimit, place 14 0 c.defaultForecast]

/-- The eight words of a CHANNEL record. `free k` is the free value of field k: a named field with no meaning at this
instant, whose value the manual does not state (notes/assumptions/12.md). -/
def channelWords (free : Nat → Nat) (g : Globals) (c : Channel) : List Word :=
  let sw := c.sw
  [wordOf [place 4 28 c.life.code, place 4 24 c.cause.code, place 3 21 c.line.code, place 2 19 c.pair.code,
      place 2 16 c.strikes, place 3 12 c.attempts, place 2 8 c.misses, placeFlag 7 c.seq, place 2 4 sw.state.code,
      place 3 0 sw.rampCode],
    wordOf [place 16 16 c.shed, place 8 8 sw.openLoad, place 4 4 sw.tripCount, place 2 2 g.chopCode.val, place 2 0 g.gain],
    wordOf [c.forecast],
    wordOf [c.meter.totalMJ],
    wordOf [place 10 22 sw.lastPeak, place 10 12 g.target, place 10 0 c.meter.sub],
    configWord c.cfg,
    wordOf ((match c.status with
        | some r => [2 ^ 31, placeFlag 30 r.stale, place 4 26 r.band, placeFlag 25 r.inUse, placeFlag 24 r.charging,
            place 3 21 r.alarm, placeFlag 20 r.hours.isSome, place 5 15 (r.hours.getD (free 6))]
        | none => [place 1 30 (free 0), place 4 26 (free 1), place 1 25 (free 2), place 1 24 (free 3), place 3 21 (free 4),
            place 1 20 (free 5), place 5 15 (free 6)])
      ++ (match c.mailbox with
        | some m => [2 ^ 14, place 4 10 m.cmd.code, place 4 6 m.arg]
        | none => [place 4 10 (free 7), place 4 6 (free 8)])),
    wordOf ((match c.status with
        | some r => [place 16 16 r.lastAnswer]
        | none => [place 16 16 (free 14)])
      ++ (match c.test with
        | some t => [2 ^ 15, place 2 13 t.phase.code, place 4 9 t.duration, place 4 5 t.remaining,
            place 4 1 (t.bandBefore.getD (free 12)), placeFlag 0 t.aborted]
        | none => [place 2 13 (free 9), place 4 9 (free 10), place 4 5 (free 11), place 4 1 (free 12), place 1 0 (free 13)]))]

/-- The eight words of the ACCOUNT record (R61). -/
def accountWords (s : State) : List Word :=
  [wordOf [placeFlag 31 s.feedOn, placeFlag 30 s.service.vote, placeFlag 29 s.energy.vote, placeFlag 28 s.busLow,
      placeFlag 27 s.holdStandard, placeFlag 26 s.holdDeferrable, placeFlag 25 s.grant.unlimited,
      placeFlag 24 s.grant.expiryReported, place 8 16 s.grant.life, place 16 0 s.floor],
    wordOf [s.grant.pending], wordOf [s.grant.latched], wordOf [s.grant.fr], wordOf [s.reserve], wordOf [s.alarmLevel],
    wordOf [place 16 0 s.busSample],
    wordOf [place 8 24 s.layout.slots, place 12 12 s.layout.len, place 5 7 s.layout.origin, place 5 0 s.rotor]]

/-- The word of a PROBE_QUEUE position (R131): 0 at or beyond the occupancy. -/
def probeWord : Option ProbeRequest → Word
  | some r => wordOf [2 ^ 31, placeFlag 30 r.pair, place 5 24 r.chan.val]
  | none => 0

end Sys2Proof.Machine
end

