-- ==== Sys2Proof/Machine/Ops.lean ====
section
/-! DEFINITION. The named operations every command is made of: reading and writing channels and ports, entering a
record, leaving a reply, and the order of instants. -/

namespace Sys2Proof.Machine

/-! ## Channels -/

/-- Every channel, in number order. -/
def allChans : List Chan := List.finRange 24

/-- A channel. -/
def chanAt (s : State) (c : Chan) : Channel := s.channels[c]

/-- Writes a channel. -/
def setChan (c : Chan) (x : Channel) (s : State) : State := { s with channels := s.channels.set c x }

/-- Changes a channel. -/
def modChan (c : Chan) (f : Channel → Channel) (s : State) : State := setChan c (f (chanAt s c)) s

/-- Changes every channel, each by its own number and value. -/
def mapChans (f : Chan → Channel → Channel) (s : State) : State :=
  { s with channels := Vector.ofFn fun c => f c s.channels[c] }

/-- A roster row. -/
def rowAt (s : State) (r : RowIndex) : Row := s.roster[r]

/-! ## Ports and records -/

/-- Changes a port. -/
def modPort (p : Port) (f : PortState → PortState) (s : State) : State :=
  match p with
  | .service => { s with service := f s.service }
  | .energy => { s with energy := f s.energy }

/-- A queue of `cap` places takes a record (R173): appended with the loss mark as its after_loss flag, the mark then
clear; or dropped at a full queue, setting the mark and latching LOSS. -/
def enterRecord (cap : Nat) (r : Report) (ps : PortState) : PortState :=
  if ps.queue.length < cap then
    { ps with queue := ps.queue ++ [{ r with afterLoss := ps.lossMark }], lossMark := false }
  else
    { ps with lossMark := true, lossCause := true }

/-- Enters a record at a port with the frame number and slot index of the timebase (R7). -/
def report (p : Port) (c : Option Chan) (body : ReportBody) (s : State) : State :=
  modPort p (enterRecord (queueCapacity p) { frame := s.frame, slot := s.slotIndex, afterLoss := false, chan := c, body := body }) s

/-- Enters a record of a channel in the service report queue (R174). -/
def reportChan (c : Chan) (body : ReportBody) (s : State) : State := report .service (some c) body s

/-- Leaves a reply at a port (R157): it replaces the pending reply whole, and a read begins at its first byte (R165). -/
def reply (p : Port) (code : Byte) (outcome : ReplyCode) (words : List Word) (s : State) : State :=
  let s := modPort p (fun ps => { ps with reply := some { code := code, outcome := outcome, words := words } }) s
  match p with
  | .service => s
  | .energy => { s with readPos := 0 }

/-- A command refused: its reply has no result words (R166). -/
def refuse (p : Port) (cmd : Cmd) (outcome : ReplyCode) (s : State) : State := reply p cmd.code outcome [] s

/-- A command answered DONE with result words. -/
def done (p : Port) (cmd : Cmd) (words : List Word) (s : State) : State := reply p cmd.code .done words s

/-! ## Instants

The clock `ms` counts milliseconds closed. A step taken now falls in the current millisecond, its two boundaries included,
since two events of one instant may be taken in either order (R3). -/

/-- A time in ms, in µs. -/
def us (t : Nat) : Nat := 1000 * t

/-- The instant in µs at which an exchange in flight takes its next step by itself (R107 to R109). -/
def exchangeDeadline (e : Exchange) : Nat :=
  match e.phase with
  | .downlink => us (e.start + downlinkTime)
  | .window => us (e.start + windowTime)
  | .uplink => e.answerStart.getD (us e.start) + uplinkUs

/-- An uplink mark is a load mark where its average stands at B + 10 mA or more (R109). -/
def loadMark (baseline average : Nat) : Bool := decide (baseline + loadStep ≤ average)

/-- An exchange at instant `t` in ms, the close of a millisecond (R103, R109): a mark of its uplink that has closed by then
is received; the 24th is received at the uplink end. -/
def receiveMark (t average : Nat) (e : Exchange) : Exchange :=
  match e.phase, e.answerStart with
  | .uplink, some a =>
    if e.marks.length < marksBeforeLast ∧ a + markUs * (e.marks.length + 1) ≤ us t then
      { e with marks := e.marks ++ [loadMark e.baseline average] }
    else e
  | _, _ => e

/-- The instant in µs at which a running deglitch timer asserts (R73, R77). -/
def tripDeadline (c : Channel) : Option Nat := c.sw.tripTimer.map fun t => t + tripDeglitchUs c.cfg.tripDeglitch

/-- The instant in µs at which the overcurrent timer asserts (R77). -/
def ocDeadline (c : Channel) : Option Nat := c.sw.ocTimer.map fun t => t + ocDeglitchUs c.cfg.ocDeglitch

/-- The next chop period start of a switch-on (R74). -/
def nextChop (o : SwitchOn) : Nat := o.chopStart + o.chopLength

/-- The instants in µs at which a channel has something to do by itself. `now` is the clock in ms: LOST belongs to the
sample event just taken (R80). -/
def chanDeadlines (now : Nat) (c : Channel) : List Nat :=
  (match c.sw.switchOn with
    | some o =>
      (if c.sw.state = .ramping then [us o.rampEnd] else []) ++ (if o.completed then [] else [us o.completion])
        ++ [us (nextChop o)]
    | none => [])
  ++ (tripDeadline c).toList ++ (ocDeadline c).toList
  ++ (c.placement.map us).toList ++ (c.exchange.map exchangeDeadline).toList
  ++ (if c.lostDue then [us now] else [])

/-- A step of the timebase falls now (R3): the slot's L milliseconds have passed, or its slot end has been taken and the slot
start that follows at the same instant has not. -/
def boundaryDue (s : State) : Bool := decide (s.phase ≠ .running) || decide (s.layout.len ≤ s.slotTime)

/-- Something of the block falls before instant t and has not been taken yet. A probe's end is known to the millisecond,
so it is overdue one millisecond later (notes/assumptions/6.md). -/
def overdueBefore (t : Nat) (s : State) : Bool :=
  (boundaryDue s && decide (us s.ms < t))
    || allChans.any (fun c => (chanDeadlines s.ms (chanAt s c)).any fun d => decide (d < t))
    || (match s.probe with | some p => decide (us (p.stop + 1) < t) | none => false)

/-- A step that falls at instant t in µs may be taken now: t lies no later than the end of the current millisecond, and
nothing that falls before t is still to be taken (notes/assumptions/5.md). -/
def timely (t : Nat) (s : State) : Bool := decide (t ≤ us (s.ms + 1)) && !overdueBefore t s

/-! ## Answers of exec -/

/-- A step of the running block; while device reset holds it changes nothing (R2, R171). -/
def whenLive (s : State) (t : State) : Host.Outcome State Fault Refusal := .next (if s.inReset then s else t)

end Sys2Proof.Machine
end

