-- ==== Sys2Proof/Machine/Switches.lean ====
section
/-! DEFINITION. The feed switches (chapter 4) and the sample event (chapter 3.1): switch-on, opening, ramp adaptation, trip
regulation, overcurrent, open load, and the arithmetic of a sample. -/

namespace Sys2Proof.Machine

/-! ## Switch-on and its completion -/

/-- The ramp code after a completion with the adapt flag set (R71). -/
def adaptedCode (g : Globals) (peak code : Nat) : Nat :=
  if g.target < peak then min 7 (code + g.gain) else if peak < g.target / 2 then code - 1 else code

/-- A switch-on completes (R70): the last inrush peak becomes its peak, and the ramp code may be adapted (R71). -/
def completeSwitch (g : Globals) (sw : FeedSwitch) : FeedSwitch :=
  match sw.switchOn with
  | some o =>
    if o.completed then sw
    else
      { sw with
        lastPeak := o.peak
        rampCode := if o.adapt then adaptedCode g o.peak sw.rampCode else sw.rampCode
        switchOn := some { o with completed := true } }
  | none => sw

/-- A deglitch timer under a sensed current (R73, R77): it runs while the current is above the level. -/
def runTimer (level current t : Nat) (timer : Option Nat) : Option Nat :=
  if level < current then some (timer.getD t) else none

/-- Both detectors are armed at instant `t` in µs (R67, R73, R74, R77): their timers are clear, and run from then on where
the sensed current already stands above their level. -/
def armDetectors (cfg : ChanConfig) (t : Nat) (sw : FeedSwitch) : FeedSwitch :=
  { sw with
    tripTimer := runTimer (tripLevelMA cfg.tripLevel) sw.sensed t none
    ocTimer := runTimer overcurrentMA sw.sensed t none }

/-- The switch is opened for good (R68). A switch-on whose completion sample has already been taken completes first
(R69); one opened before it is cut short. A switch already OPEN is left as it is. The opening takes the current away
(notes/assumptions/14.md). -/
def openSwitch (g : Globals) (now : Nat) (sw : FeedSwitch) : FeedSwitch :=
  match sw.switchOn with
  | some o =>
    let sw := if o.completion ≤ now then completeSwitch g sw else sw
    { sw with state := .opened, switchOn := none, tripTimer := none, ocTimer := none, sensed := 0, closedMs := false }
  | none => sw

/-- A switch-on at a slot start, instant `now` (R67). -/
def closeSwitch (g : Globals) (cfg : ChanConfig) (now : Nat) (sw : FeedSwitch) : FeedSwitch :=
  let rampEnd := now + rampTime sw.rampCode
  { armDetectors cfg (us now) sw with
    state := .ramping
    switchOn := some
      { rampEnd := rampEnd, completion := rampEnd + completionDelay, completed := false, peak := 0, adapt := cfg.adaptation,
        chopStart := now, chopLength := chopPeriod g.chopCode, tripSeen := false }
    tripCount := 0
    openLoad := 0
    closedMs := true }

/-- Whether the detectors are armed (R73, R77): the switch is RAMPING or ON. -/
def armed (sw : FeedSwitch) : Bool := sw.state = .ramping || sw.state = .on

/-! ## Departure from a powered state -/

/-- The exchange in flight ends and a placement is withdrawn, with no outcome (R105, R114). -/
def endExchange (c : Channel) : Channel :=
  { c with placement := none, exchange := none, exchangeMs := c.exchangeMs || c.exchange.isSome }

/-- What every departure from WAKING, FED or RESUMING does (R94): the switch opens for good, sampling stops, an exchange
in flight ends ABANDONED and a placement is withdrawn. -/
def departChannel (g : Globals) (now : Nat) (c : Channel) : Channel :=
  let c := endExchange c
  { c with sw := openSwitch g now c.sw, meter := { c.meter with sampling := false }, lostDue := false }

/-- The feed turning OFF, at one channel (R24): its switch opens for good and its exchange ends, and it goes on sampling. -/
def feedOffChannel (g : Globals) (now : Nat) (c : Channel) : Channel :=
  let c := endExchange c
  { c with sw := openSwitch g now c.sw }

/-! ## The sample event -/

/-- One sample added to a meter (R44): v in units of 10 mV, i in mA. -/
def addSample (v i : Nat) (m : Meter) : Meter :=
  { m with acc := m.acc + (v * i + m.residue) / 100, residue := (v * i + m.residue) % 100 }

/-- The inrush peak takes a reading inside the inrush window, at the sample event of instant `t` (R70). -/
def takePeak (t i : Nat) (sw : FeedSwitch) : FeedSwitch :=
  match sw.switchOn with
  | some o =>
    if o.completed || decide (o.completion < t) then sw
    else { sw with switchOn := some { o with peak := max o.peak i } }
  | none => sw

/-- Whether the reading of the sample event at instant `t` qualifies for the open-load count (R79). -/
def qualifies (t : Nat) (c : Channel) : Bool :=
  (c.life = .fed || c.life = .resuming) && c.sw.closedMs
    && (match c.sw.switchOn with | some o => decide (o.completion < t) | none => false)
    && (match c.exchange with | some e => decide (t ≤ e.start) | none => true) && !c.exchangeMs

/-- The open-load count takes a reading (R79), and LOST arises when a qualifying low reading takes it to N (R80). -/
def countOpenLoad (t i : Nat) (c : Channel) : Channel :=
  if c.life = .fed ∨ c.life = .resuming then
    if lowReading ≤ i then { c with sw := { c.sw with openLoad := 0 } }
    else if qualifies t c then
      { c with
        sw := { c.sw with openLoad := c.sw.openLoad + 1 }
        lostDue := c.lostDue || decide (openLoadLimit c.life c.cfg.openLoadCode ≤ c.sw.openLoad + 1) }
    else c
  else c

/-- A reading taken of a sampling channel: the meter, the inrush peak and the open-load count (R43, R44, R70, R79). -/
def takeReading (t v i : Nat) (c : Channel) : Channel :=
  countOpenLoad t i { c with meter := addSample v i c.meter, sw := takePeak t i c.sw }

/-- A sample event at one channel, at the close of the millisecond that ends at instant `t`. A channel
that is not sampling is not read (R43). -/
def sampleChannel (t v : Nat) (r : Reading) (c : Channel) : Channel :=
  let c := if c.meter.sampling then takeReading t v (min r.current currentMax) c else c
  { c with
    sw := { c.sw with sensed := r.current, closedMs := armed c.sw }
    exchange := c.exchange.map (receiveMark t r.average)
    exchangeMs := false }

/-- The sample event (R42 to R44): the bus and every sampling channel are read, the uplink marks that close in the
millisecond are received (R109), and the slot's millisecond closes (R3). -/
def sampleEvent (bus : Nat) (readings : Vector Reading 24) (s : State) : State :=
  let v := min bus busMax
  let t := s.ms + 1
  let s := mapChans (fun c ch => sampleChannel t v readings[c] ch) s
  { s with busSample := v, ms := t, slotTime := s.slotTime + 1 }

/-- Whether the current millisecond of the slot may close: the slot runs, some of its L milliseconds are left, and nothing
that falls before its close is still to be taken. -/
def sampleReady (s : State) : Bool :=
  decide (s.phase = .running) && decide (s.slotTime < s.layout.len) && timely (us (s.ms + 1)) s

/-! ## Chop periods and detectors -/

/-- The sensed current changes at instant t in µs: each armed detector's timer starts, runs on or clears (R73, R77). -/
def senseCurrent (t current : Nat) (c : Channel) : Channel :=
  if armed c.sw then
    { c with sw := { c.sw with
        sensed := current
        tripTimer := runTimer (tripLevelMA c.cfg.tripLevel) current t c.sw.tripTimer
        ocTimer := runTimer overcurrentMA current t c.sw.ocTimer } }
  else { c with sw := { c.sw with sensed := current } }

/-- A chop period start after the first (R74), at a switch whose period ends at `nextChop o`: the trip count, trip seen,
and reclosure from CHOP_OFF with the detectors armed. A reclosure before the millisecond's beginning closes all of it. -/
def startChop (g : Globals) (cfg : ChanConfig) (now : Nat) (o : SwitchOn) (sw : FeedSwitch) : FeedSwitch :=
  let sw :=
    { sw with
      tripCount := if o.tripSeen then sw.tripCount else 0
      switchOn := some { o with tripSeen := false, chopStart := nextChop o, chopLength := chopPeriod g.chopCode } }
  if sw.state = .chopOff then
    { armDetectors cfg (us (nextChop o)) sw with
      state := .on
      closedMs := sw.closedMs || decide (nextChop o ≤ now) }
  else sw

/-- A trip at instant `t` in µs (R75): CHOP_OFF, the detectors disarmed, trip seen, the consecutive trip count up by 1 (it
stays within 0..8). The opening takes the current away, but for a trip at the instant the next chop period starts, which
has no chop-off time (R76, notes/assumptions/14.md). -/
def tripSwitch (t : Nat) (o : SwitchOn) (sw : FeedSwitch) : FeedSwitch :=
  { sw with
    state := .chopOff
    tripTimer := none
    ocTimer := none
    sensed := if t < us (nextChop o) then 0 else sw.sensed
    closedMs := false
    tripCount := min tripLimit (sw.tripCount + 1)
    switchOn := some { o with tripSeen := true } }

/-- A CHANNEL_CONFIG edit at a switch (R82): the ramp code, the adapt flag of a switch-on still to complete, and the
timers of armed detectors, started again at instant t in µs if the sensed current is above the level. -/
def configureSwitch (cfg : ChanConfig) (t : Nat) (sw : FeedSwitch) : FeedSwitch :=
  { (if armed sw then armDetectors cfg t sw else sw) with
    rampCode := cfg.rampCode
    switchOn := sw.switchOn.map fun o => if o.completed then o else { o with adapt := false } }

end Sys2Proof.Machine
end

