-- ==== Sys2Proof/Machine/Probes.lean ====
section
/-! DEFINITION. The probe engine and its queue (chapter 7). -/

namespace Sys2Proof.Machine

/-- The engine is BUSY (R121). -/
def probeBusy (s : State) : Bool := s.probe.isSome

/-- A channel is held as the partner of the PAIR probe in progress (R30, R125). -/
def held (s : State) (c : Chan) : Bool :=
  match s.probe with
  | some p => p.partner = some c
  | none => false

/-- PROBE_RESULT (R130). -/
def reportProbe (r : ProbeRequest) (outcome : ProbeOutcome) (reading : Option Nat) (s : State) : State :=
  reportChan r.chan (.probeResult r.pair (if r.pair then some (partnerOf r.chan) else none) outcome reading) s

/-- A probe start (R125). -/
def startProbe (r : ProbeRequest) (s : State) : State :=
  { s with probe := some { chan := r.chan, partner := if r.pair then some (partnerOf r.chan) else none,
                           start := s.ms, stop := s.ms + probeTime r.pair } }

/-- A look examines the entries from the oldest (R124): cancelled, passed over (kept in `kept`), or started. -/
def examine (kept : List ProbeRequest) : List ProbeRequest → State → State
  | [], s => { s with probeQueue := kept, waiting := true }
  | r :: rest, s =>
    if (chanAt s r.chan).life ≠ .dark then examine kept rest (reportProbe r .cancelled none s)
    else if r.pair && powered (chanAt s (partnerOf r.chan)).life then examine (kept ++ [r]) rest s
    else startProbe r { s with probeQueue := kept ++ rest, waiting := false }

/-- A look, made only while the engine is IDLE (R124). -/
def look (s : State) : State :=
  if probeBusy s then s
  else if s.probeQueue.isEmpty then { s with waiting := false }
  else examine [] s.probeQueue s

/-- An arrival that appends an entry (R123): the engine looks at once if it is IDLE. -/
def appendProbe (r : ProbeRequest) (s : State) : State := look { s with probeQueue := s.probeQueue ++ [r] }

/-- The channel table's LINE request (R123): merged, appended, or dropped at a full queue with NOT_QUEUED. -/
def requestLine (c : Chan) (s : State) : State :=
  let r : ProbeRequest := { chan := c, pair := false }
  if s.probeQueue.contains r then s
  else if s.probeQueue.length < probeCapacity then appendProbe r s
  else reportProbe r .notQueued none s

/-- The request a probe in progress served. -/
def Probe.request (p : Probe) : ProbeRequest := { chan := p.chan, pair := p.partner.isSome }

/-- The probed channel leaves DARK while its probe is in progress (R129): CANCELLED, and a look. -/
def cancelProbe (c : Chan) (s : State) : State :=
  match s.probe with
  | some p => if p.chan = c then look (reportProbe p.request .cancelled none { s with probe := none }) else s
  | none => s

end Sys2Proof.Machine
end

