-- ==== Sys2Proof/Machine/Channels.lean ====
section
/-! DEFINITION. The life of a channel (chapters 5 and 8): departures, entries to the unpowered states, waking, testing
and resuming. -/

namespace Sys2Proof.Machine

/-! ## Records -/

/-- A status record's fields as a report carries them. -/
def StatusRecord.fields (r : StatusRecord) : StatusFields :=
  { band := r.band, inUse := r.inUse, charging := r.charging, alarm := r.alarm, hours := r.hours }

/-- A TEST_RESULT without a result (R144): frames run and band_before only where the test's frames had begun. -/
def testEnding (outcome : TestOutcome) (t : TestContext) (refusedCode : Nat) : ReportBody :=
  if t.phase = .requested then .testResult outcome t.phase t.duration 0 none none none t.aborted refusedCode
  else .testResult outcome t.phase t.duration (t.duration - t.remaining) t.bandBefore none none t.aborted refusedCode

/-- TEST_RESULT COMPLETE (R142). -/
def testComplete (t : TestContext) (bandAfter estimate : Nat) : ReportBody :=
  .testResult .complete t.phase t.duration (t.duration - t.remaining) t.bandBefore (some bandAfter) (some estimate) t.aborted 0

/-! ## Entries to DARK, FAULTED and RETIRED -/

/-- A test in flight ends (R95, step 2): its context and its BEGIN_TEST are removed with one TEST_RESULT. -/
def endTest (c : Chan) (outcome : TestOutcome) (s : State) : State :=
  match (chanAt s c).test with
  | some t =>
    reportChan c (testEnding outcome t 0) (modChan c (fun ch =>
      { ch with
        test := none
        mailbox := ch.mailbox.filter fun m => m.cmd ≠ .beginTest }) s)
  | none => s

/-- The mailbox is emptied with MAILBOX_DONE DROPPED, where it holds a command (R95, step 3). -/
def dropMailbox (c : Chan) (s : State) : State :=
  match (chanAt s c).mailbox with
  | some m => reportChan c (.mailboxDone .dropped m 0 none) (modChan c (fun ch => { ch with mailbox := none }) s)
  | none => s

/-- A present status record is marked stale (R95, step 4). -/
def markStale (c : Chan) (s : State) : State :=
  modChan c (fun ch => { ch with status := ch.status.map fun r => { r with stale := true } }) s

/-- Enters a transition's own record, where it has one (R95, step 1). -/
def reportOwn (c : Chan) (own : Option ReportBody) (s : State) : State :=
  match own with
  | some b => reportChan c b s
  | none => s

/-- The four steps of R95 at an entry to an unpowered state. -/
def settleUnpowered (c : Chan) (own : Option ReportBody) (outcome : TestOutcome) (s : State) : State :=
  markStale c (dropMailbox c (endTest c outcome (reportOwn c own s)))

/-- A departure from a powered state (R94); from an unpowered one, nothing. -/
def depart (c : Chan) (s : State) : State :=
  if powered (chanAt s c).life then modChan c (departChannel s.globals s.ms) s else s

/-- The causes of an entry to DARK that make the line result UNKNOWN and queue a LINE probe (R96, R123). -/
def queuesLine (cause : StateCause) : Bool :=
  cause = .silent || cause = .openLoad || cause = .cleared || cause = .released

/-- The line and pair results at an entry to DARK (R96). -/
def darkResults (cause : StateCause) (ch : Channel) : Channel :=
  { ch with
    life := .dark
    cause := cause
    line := if queuesLine cause then .unknown else ch.line
    pair := if cause = .cleared || cause = .released then .untested else ch.pair }

/-- An entry to DARK: the departure (R94), the state, the steps of R95, and the LINE request that follows them (R123). -/
def enterDark (c : Chan) (cause : StateCause) (own : Option ReportBody) (outcome : TestOutcome) (s : State) : State :=
  let s := settleUnpowered c own outcome (modChan c (darkResults cause) (depart c s))
  if queuesLine cause then requestLine c s else s

/-- An entry to FAULTED (R97): one strike, the FAULT record, and the steps of R94 and R95. -/
def enterFaulted (c : Chan) (cause : StateCause) (partner : Option Chan) (s : State) : State :=
  let left := (chanAt s c).life
  let strikes := min lockStrikes ((chanAt s c).strikes + 1)
  settleUnpowered c (some (.fault cause left strikes partner)) .faulted
    (modChan c (fun ch => { ch with life := .faulted, cause := cause, strikes := strikes }) (depart c s))

/-- An entry to RETIRED (R99). -/
def enterRetired (c : Chan) (s : State) : State :=
  settleUnpowered c none .retired (modChan c (fun ch => { ch with life := .retired }) (depart c s))

/-! ## Entries to WAKING, FED, TESTING and RESUMING -/

/-- An entry to WAKING (R90, R40). The open-load count keeps its value until the switch-on that clears it (R68), though R79
has it stay 0 in WAKING (the model's choice, notes/assumptions/28.md). -/
def wakeChannel (ch : Channel) : Channel :=
  { ch with
    life := .waking, attempts := 0, forecast := ch.cfg.defaultForecast * 1000, seq := false, entered := true }

/-- An entry to FED (R92). -/
def feedChannel (ch : Channel) : Channel :=
  { ch with life := .fed, misses := 0, sw := { ch.sw with openLoad := 0 } }

/-- The entry to TESTING at the ACK (R136, step 3), after the departure. -/
def testChannel (band : Nat) (ch : Channel) : Channel :=
  { ch with
    life := .testing
    misses := 0
    mailbox := none
    test := ch.test.map fun t => { t with phase := .running, remaining := t.duration, bandBefore := some band } }

/-- An entry to RESUMING from TESTING (R140). -/
def resumeChannel (aborted : Bool) (ch : Channel) : Channel :=
  { ch with
    life := .resuming
    forecast := ch.cfg.defaultForecast * 1000
    seq := false
    entered := true
    sw := { ch.sw with openLoad := 0 }
    test := ch.test.map fun t => { t with phase := .resuming, aborted := aborted } }

/-- One frame of a running test is counted at a frame opening (R139). -/
def countFrame (ch : Channel) : Channel :=
  match ch.test with
  | some t =>
    if t.phase = .running then
      let ch := { ch with test := some { t with remaining := t.remaining - 1 } }
      if t.remaining ≤ 1 then resumeChannel false ch else ch
    else ch
  | none => ch

/-! ## The frame of a last answer -/

/-- What a LOST record carries as the last answer (R93). -/
def lastAnswerOf (ch : Channel) : Option Nat := ch.status.map fun r => r.lastAnswer

/-- A silent channel (R92): LOST from FED, TEST_RESULT NO_ANSWER in its place from RESUMING. -/
def goSilent (c : Chan) (s : State) : State :=
  let ch := chanAt s c
  enterDark c .silent (if ch.life = .fed then some (.lost .silent (lastAnswerOf ch)) else none) .noAnswer s

/-- An open load (R93): LOST from FED, TEST_RESULT LOST in its place from RESUMING. -/
def goOpenLoad (c : Chan) (s : State) : State :=
  let ch := chanAt s c
  enterDark c .openLoad (if ch.life = .fed then some (.lost .openLoad (lastAnswerOf ch)) else none) .lost s

end Sys2Proof.Machine
end

