-- ==== Sys2Proof/Machine/Lines.lean ====
section
/-! DEFINITION. The feed-line exchange (chapter 6): placement, start, outcomes, the terminal status record and the mailbox. -/

namespace Sys2Proof.Machine

/-! ## Placing and starting -/

/-- The start point placed for an admitted channel at a slot start of instant `now`, slot length `len` (R104). -/
def placementOf (now len : Nat) (ch : Channel) : Option Nat :=
  let base := match ch.sw.switchOn with
    | some o => max now o.rampEnd
    | none => now
  let start := base + settleTime ch.life
  if start + exchangeRoom ≤ now + len then some start else none

/-- The downlink command and argument of an exchange that starts (R106). -/
def downlinkOf (ch : Channel) : DownCmd × Nat :=
  match ch.life with
  | .waking => (.wake, 0)
  | .resuming => (.resultQuery, 0)
  | .fed | .dark | .testing | .faulted | .retired =>
    match ch.mailbox with
    | some m => (m.cmd, m.arg)
    | none => (.keep, 0)

/-- An exchange starts at the start point `t` (R106, R107). -/
def startExchange (t : Nat) (ch : Channel) : Channel :=
  let d := downlinkOf ch
  { ch with
    placement := none
    exchange := some
      { cmd := d.1, arg := d.2, seq := ch.seq, phase := .downlink, start := t, downlink := downlinkMarks d.1 d.2 ch.seq,
        baseline := 0, answerStart := none, marks := [] } }

/-! ## The FEED outputs -/

/-- What a FEED output carries. -/
inductive FeedOutput where
  /-- no output: the switch is OPEN or in chop-off time, and the probe selector is not on it (R66, R75) -/
  | off
  /-- the output of a ramp, rising to full (R67) -/
  | rising
  /-- full output (R66) -/
  | full
  /-- a downlink dip, 80% of the bus (R107) -/
  | dip
  /-- the probe bias source, 12.0 V behind a current limit of 2 mA (R125) -/
  | bias
  /-- tied to RTN through the sense path of a PAIR probe (R125) -/
  | sense
  deriving DecidableEq, Repr

/-- The downlink mark an exchange has on the line at instant `t` in µs: 1 is a dip (R107, chapter 12.1). -/
def markOnLine (t : Nat) (e : Exchange) : Option Bool :=
  match e.phase with
  | .downlink => if us e.start ≤ t then e.downlink[(t - us e.start) / markUs]? else none
  | .window | .uplink => none

/-- What a channel's switch puts out at instant `t` in µs (R66, R107): a closed switch's output stage makes the dips; an open
one, in chop-off time too, has no output and so no mark. -/
def switchOutput (t : Nat) (c : Channel) : FeedOutput :=
  let dipped := c.exchange.bind (markOnLine t) = some true
  match c.sw.state with
  | .opened | .chopOff => .off
  | .ramping => if dipped then .dip else .rising
  | .on => if dipped then .dip else .full

/-- The FEED output of channel `c` at instant `t` in µs (R125): while a probe is in progress the selector has the bias source
on the probed channel's output and, for a PAIR, the sense path on its partner's; every other carries what its switch puts
out. -/
def feedOutput (t : Nat) (s : State) (c : Chan) : FeedOutput :=
  match s.probe with
  | some p => if p.chan = c then .bias else if p.partner = some c then .sense else switchOutput t (chanAt s c)
  | none => switchOutput t (chanAt s c)

/-! ## The answer -/

/-- The outcome of 24 marks (R113). -/
def classify (cmd : DownCmd) (seq : Bool) (ms : List Bool) : ExchangeOutcome × Option Answer :=
  match answerOfMarks seq ms with
  | none => (.corrupt, none)
  | some a => if expects cmd a.kind then (.valid, some a) else (.unexpected, some a)

/-- The status record refreshed from an answer in frame `frame` (R116). -/
def refreshed (frame : Nat) (a : Answer) (old : Option StatusRecord) : StatusRecord :=
  { band := a.band, inUse := a.inUse, charging := a.charging, alarm := a.alarm,
    hours := if a.kind = .status then some a.payload else (match old with | some r => r.hours | none => none),
    lastAnswer := frame, stale := false }

/-- What a STATUS_CHANGE carries as the prior values (R117): nothing where the record was absent or stale. -/
def priorOf (old : Option StatusRecord) : Option (Bool × Nat) :=
  match old with
  | some r => if r.stale then none else some (r.inUse, r.alarm)
  | none => none

/-- Whether a refresh makes a STATUS_CHANGE due (R117). -/
def changeDue (a : Answer) (old : Option StatusRecord) : Bool :=
  match priorOf old with
  | some (u, al) => u ≠ a.inUse || al ≠ a.alarm
  | none => true

/-! ## The outcome's action, by state -/

/-- A miss in WAKING (R91). -/
def countAttempt (c : Chan) (s : State) : State :=
  let s := modChan c (fun ch => { ch with attempts := ch.attempts + 1 }) s
  let ch := chanAt s c
  if ch.cfg.wakeLimit ≤ ch.attempts then
    enterDark c .wakeFailed (some (.wakeResult false ch.attempts 0)) .noAnswer s
  else s

/-- A miss in FED or RESUMING (R92). -/
def countMiss (c : Chan) (s : State) : State :=
  let s := modChan c (fun ch => { ch with misses := ch.misses + 1 }) s
  if silentMisses ≤ (chanAt s c).misses then goSilent c s else s

/-- A valid HELLO (R91, R92). -/
def helloAnswer (c : Chan) (a : Answer) (s : State) : State :=
  let attempts := (chanAt s c).attempts
  reportChan c (.wakeResult true attempts a.payload) (modChan c feedChannel s)

/-- A valid RESULT (R142). -/
def resultAnswer (c : Chan) (a : Answer) (s : State) : State :=
  let s :=
    match (chanAt s c).test with
    | some t => reportChan c (testComplete t a.band a.payload) (modChan c (fun ch => { ch with test := none }) s)
    | none => s
  modChan c feedChannel s

/-- The mailbox command leaves by a valid answer that keeps the channel in FED (R119). -/
def settleMailbox (c : Chan) (outcome : MailOutcome) (m : Mailbox) (payload : Nat) (fields : Option StatusFields) (s : State) : State :=
  reportChan c (.mailboxDone outcome m payload fields) (modChan c (fun ch => { ch with mailbox := none }) s)

/-- A valid NAK to BEGIN_TEST (R137). -/
def refuseTest (c : Chan) (a : Answer) (s : State) : State :=
  match (chanAt s c).test with
  | some t =>
    reportChan c (testEnding .refused t a.payload) (modChan c (fun ch => { ch with test := none, mailbox := none }) s)
  | none => modChan c (fun ch => { ch with mailbox := none }) s

/-- A valid answer in FED to the command `e` sent (R115, R119, R136, R137). -/
def fedAnswer (c : Chan) (e : Exchange) (a : Answer) (s : State) : State :=
  let s := modChan c (fun ch => { ch with misses := 0 }) s
  let m : Mailbox := { cmd := e.cmd, arg := e.arg }
  match e.cmd with
  | .keep | .wake | .resultQuery => s
  | .query =>
    settleMailbox c .answered m 0
      (some { band := a.band, inUse := a.inUse, charging := a.charging, alarm := a.alarm, hours := some a.payload }) s
  | .aux _ => settleMailbox c (if a.kind = .ack then .acked else .naked) m a.payload none s
  | .doze =>
    if a.kind = .ack then
      enterDark c .dozed (some (.mailboxDone .acked m a.payload none)) .noAnswer
        (modChan c (fun ch => { ch with mailbox := none }) s)
    else settleMailbox c .naked m a.payload none s
  | .beginTest => if a.kind = .ack then modChan c (testChannel a.band) (depart c s) else refuseTest c a s

/-- Step 3 of R115 at a valid answer. -/
def validAction (c : Chan) (e : Exchange) (a : Answer) (s : State) : State :=
  match (chanAt s c).life with
  | .waking => helloAnswer c a s
  | .fed => fedAnswer c e a s
  | .resuming => resultAnswer c a s
  | .dark | .testing | .faulted | .retired => s

/-- Step 3 of R115 at a miss. -/
def missAction (c : Chan) (s : State) : State :=
  match (chanAt s c).life with
  | .waking => countAttempt c s
  | .fed | .resuming => countMiss c s
  | .dark | .testing | .faulted | .retired => s

/-- Step 1 of R115: the refresh (R116). -/
def refreshStatus (c : Chan) (a : Answer) (s : State) : State :=
  modChan c (fun ch => { ch with status := some (refreshed s.frame a ch.status) }) s

/-- Step 4 of R115: the STATUS_CHANGE, if one is due, with the fields as refreshed (R117). -/
def reportChange (c : Chan) (a : Answer) (frame : Nat) (old : Option StatusRecord) (s : State) : State :=
  if changeDue a old then reportChan c (.statusChange (refreshed frame a old).fields (priorOf old)) s else s

/-- The exchange in flight has ended with an outcome of its own; the end falls inside the current millisecond when
`inside` (R79). -/
def takeExchange (inside : Bool) (ch : Channel) : Channel :=
  { ch with exchange := none, exchangeMs := ch.exchangeMs || inside }

/-- The channel table takes the outcome of the exchange `e`, already ended (R115). -/
def exchangeOutcome (c : Chan) (e : Exchange) (outcome : ExchangeOutcome) (answer : Option Answer) (s : State) : State :=
  match outcome, answer with
  | .valid, some a =>
    let old := (chanAt s c).status
    let s := modChan c (fun ch => { ch with seq := !ch.seq }) (refreshStatus c a s)
    reportChange c a s.frame old (validAction c e a s)
  | .unexpected, some a =>
    let old := (chanAt s c).status
    reportChange c a s.frame old (missAction c (refreshStatus c a s))
  | _, _ => missAction c s

end Sys2Proof.Machine
end

