-- ==== Sys2Proof/Machine/LineSteps.lean ====
section
/-! DEFINITION. The steps of the line exchange units: EXCHANGE_START, DOWNLINK_END, ANSWER_START, WINDOW_EXPIRY, UPLINK_END
(chapter 6). -/

namespace Sys2Proof.Machine

/-- The start point of a placement (R106). -/
def exchangeStart (c : Chan) (s : State) : State :=
  let ch := chanAt s c
  match ch.placement with
  | some t => if powered ch.life && timely (us t) s then modChan c (startExchange t) s else s
  | none => s

/-- Changes the exchange in flight of a channel. -/
def setExchange (c : Chan) (e : Exchange) (s : State) : State := modChan c (fun ch => { ch with exchange := some e }) s

/-- The downlink end (R107, R108): the window opens and the baseline is taken. -/
def downlinkEnd (c : Chan) (baseline : Nat) (s : State) : State :=
  match (chanAt s c).exchange with
  | some e =>
    if e.phase = .downlink && timely (exchangeDeadline e) s then
      setExchange c { e with phase := .window, baseline := baseline } s
    else s
  | none => s

/-- Whether an answer has begun at instant t in µs (R108): the current rose to B + 10 mA inside the window and has stood
there for half a millisecond of it. A current that rose during the downlink and stands on is no answer: at no half
millisecond of the window was it below before (notes/assumptions/29.md). -/
def answerBegins (e : Exchange) (t : Nat) (r : Rise) : Bool :=
  decide (us (e.start + downlinkTime) + answerHoldUs ≤ t) && decide (t ≤ us (e.start + windowTime))
    && decide (r.before < e.baseline + loadStep) && decide (e.baseline + loadStep ≤ r.held)

/-- An answer begins (R108): its start instant is the start of the half millisecond. -/
def answerStart (c : Chan) (instant : Fin 1001) (rise : Rise) (s : State) : State :=
  let t := us s.ms + instant.val
  match (chanAt s c).exchange with
  | some e =>
    if e.phase = .window && answerBegins e t rise && timely t s then
      setExchange c { e with phase := .uplink, answerStart := some (t - answerHoldUs) } s
    else s
  | none => s

/-- The window expires with no answer (R108, R113). -/
def windowExpiry (c : Chan) (s : State) : State :=
  match (chanAt s c).exchange with
  | some e =>
    if e.phase = .window && timely (exchangeDeadline e) s then
      exchangeOutcome c e .noAnswer none (modChan c (takeExchange (decide (us s.ms < exchangeDeadline e))) s)
    else s
  | none => s

/-- The uplink ends (R109, R113): the 24th mark is received, the marks are classified, and the channel table takes the
outcome. -/
def uplinkEnd (c : Chan) (average : Nat) (s : State) : State :=
  match (chanAt s c).exchange with
  | some e =>
    if e.phase = .uplink && timely (exchangeDeadline e) s then
      let e := { e with marks := e.marks ++ [loadMark e.baseline average] }
      let r := classify e.cmd e.seq e.marks
      exchangeOutcome c e r.1 r.2 (modChan c (takeExchange (decide (us s.ms < exchangeDeadline e))) s)
    else s
  | none => s

/-- EXCHANGE_START. -/
def execExchangeStart (c : Chan) (s : State) : Host.Outcome State Fault Refusal := whenLive s (exchangeStart c s)

/-- DOWNLINK_END. -/
def execDownlinkEnd (c : Chan) (baseline : Nat) (s : State) : Host.Outcome State Fault Refusal := whenLive s (downlinkEnd c baseline s)

/-- ANSWER_START. -/
def execAnswerStart (c : Chan) (instant : Fin 1001) (rise : Rise) (s : State) : Host.Outcome State Fault Refusal :=
  whenLive s (answerStart c instant rise s)

/-- WINDOW_EXPIRY. -/
def execWindowExpiry (c : Chan) (s : State) : Host.Outcome State Fault Refusal := whenLive s (windowExpiry c s)

/-- UPLINK_END. -/
def execUplinkEnd (c : Chan) (average : Nat) (s : State) : Host.Outcome State Fault Refusal :=
  whenLive s (uplinkEnd c average s)

end Sys2Proof.Machine
end

