-- ==== Sys2Proof/Machine/Account.lean ====
section
/-! DEFINITION. The energy account and the closing of a slot (chapter 3.2 to 3.5): charging, folding, the grant, the frame
summary, the alarm. -/

namespace Sys2Proof.Machine

/-- A tally that saturates (R57). -/
def tallyAdd (t n : Nat) : Nat := min wordMax (t + n)

/-- Whether the reserve `rp` is below the alarm level (R54). -/
def belowAlarm (s : State) (rp : Nat) : Bool := decide (rp < s.alarmLevel * 1000)

/-- The amount a charge takes from the frame remainder (R46, step 1). -/
def chargeFrame (s : State) (e : Nat) : Nat := min e s.grant.fr

/-- The amount a charge takes from the reserve (R46, step 2). -/
def chargeReserve (s : State) (priority : Bool) (e : Nat) : Nat :=
  if priority then min (e - chargeFrame s e) s.reserve else 0

/-- The amount of a charge that goes to overdraw (R46, step 3). -/
def chargeOverdraw (s : State) (priority : Bool) (e : Nat) : Nat := e - chargeFrame s e - chargeReserve s priority e

/-- One entry is charged (R46), and RESERVE_LOW is entered where the charge takes the reserve across the level (R54). -/
def charge (c : Chan) (priority : Bool) (e : Nat) (s : State) : State :=
  let a := chargeFrame s e
  let b := chargeReserve s priority e
  let o := chargeOverdraw s priority e
  let rp := s.reserve - b
  let crossed := !belowAlarm s s.reserve && belowAlarm s rp
  let s :=
    { s with
      grant := { s.grant with fr := s.grant.fr - a }
      reserve := rp
      tallies := { s.tallies with
        spent := tallyAdd s.tallies.spent a, drawn := tallyAdd s.tallies.drawn b, overdraw := tallyAdd s.tallies.overdraw o } }
  if crossed then report .energy (some c) (.reserveLow rp s.alarmLevel) s else s

/-- A slot energy folded into the cumulative total (R47). -/
def foldMeter (m : Meter) : Meter :=
  { m with
    totalMJ := min wordMax (m.totalMJ + (m.sub + m.acc) / 1000)
    sub := (m.sub + m.acc) % 1000
    acc := 0 }

/-- The forecast and the fold of an entry's channel (R45, steps 2 to 4). -/
def closeChannel (c : Channel) : Channel :=
  { c with forecast := if c.entered then c.forecast else c.meter.acc, meter := foldMeter c.meter }

/-- One entry of the ending slot is closed (R45). -/
def closeEntry (s : State) (e : Entry) : State :=
  modChan e.chan closeChannel (charge e.chan e.priority (chanAt s e.chan).meter.acc s)

/-- The frame summary (R58); the six tallies then restart at 0. -/
def summarise (s : State) : State :=
  let s := report .energy none (.frameSummary s.grant.latched s.tallies s.reserve) s
  { s with tallies := .zero }

/-- The slot end (R4, R45): every entry closed in admission order, sampling stopped, the summary after the last slot. -/
def slotEnd (s : State) : State :=
  let s := s.admitted.foldl closeEntry s
  let s := mapChans (fun _ c => { c with meter := { c.meter with sampling := false } }) s
  let s := if s.slotIndex + 1 = s.layout.slots then summarise s else s
  { s with phase := .ended }

/-- Whether the slot end is due (R3): L milliseconds have passed, each with its sample event, and no LOST of the last one
is still to be handed on. -/
def slotEndReady (s : State) : Bool :=
  decide (s.phase = .running) && decide (s.slotTime = s.layout.len) && !allChans.any fun c => (chanAt s c).lostDue

/-- The grant is latched for the new frame (R50). -/
def latchGrant (s : State) : State :=
  let g := s.grant
  if g.unlimited then { s with grant := { g with latched := g.pending, fr := g.pending * 1000 } }
  else if 0 < g.life then { s with grant := { g with latched := g.pending, fr := g.pending * 1000, life := g.life - 1 } }
  else
    let s := { s with grant := { g with latched := 0, fr := 0, expiryReported := true } }
    if g.expiryReported then s else report .energy none (.grantExpired g.pending) s

/-- The bus-low state at a slot start (R35), its record and its tally. -/
def evaluateBus (s : State) : State :=
  let low := decide (s.floor ≠ 0) && decide (s.busSample < s.floor)
  let s' :=
    if low && !s.busLow then report .energy none (.busLow s.busSample s.floor) s
    else if !low && s.busLow then report .energy none (.busOk s.busSample s.floor) s
    else s
  { s' with busLow := low, tallies := { s'.tallies with busLow := tallyAdd s'.tallies.busLow (if low then 1 else 0) } }

end Sys2Proof.Machine
end

