-- ==== Sys2Proof/Machine/Admission.lean ====
section
/-! DEFINITION. Admission at a slot start (chapter 2.3), switch continuity (chapter 1.3) and the slot start itself. -/

namespace Sys2Proof.Machine

/-! ## Who is eligible, and in what order -/

/-- A member is eligible (R29, R30): powered, not held, and WAKING only in a slot that can carry its exchange. -/
def eligible (s : State) (row : Row) (c : Chan) : Bool :=
  let ch := chanAt s c
  powered ch.life && !held s c && (ch.life ≠ .waking || (row.exchange && decide (wakeSlot ≤ s.layout.len)))

/-- A priority member (R31). -/
def isPriority (ch : Channel) : Bool :=
  ch.cfg.cls = .emergency || (match ch.status with | some r => !r.stale && r.inUse | none => false)

/-- The group of an eligible member (R32). -/
def groupOf (ch : Channel) : Nat :=
  if isPriority ch then 0 else if ch.cfg.cls = .deferrable then 2 else 1

/-- The rank of a channel under the rotor (R8, R32). -/
def rankOf (rotor : Nat) (c : Chan) : Nat := (c.val + (24 - rotor % 24)) % 24

/-- The place of a member in the order of R32: by group, then by rank. -/
def orderKey (s : State) (c : Chan) : Nat := groupOf (chanAt s c) * 24 + rankOf s.rotor c

/-- The eligible members in the order of R32. -/
def sortedMembers (s : State) (row : Row) : List Chan :=
  (row.members.filter fun c => eligible s row c).insertionSort fun a b => orderKey s a ≤ orderKey s b

/-! ## The budget test -/

/-- What the budget test has decided so far (R33): the commitment C, the admitted entries and the shed members. -/
structure Budget where
  committed : Nat
  entries : List Entry
  shed : List Chan
  deriving DecidableEq, Repr

/-- A class is in the class hold set (R36). -/
def classHeld (s : State) : ChanClass → Bool
  | .emergency => false
  | .standard => s.holdStandard
  | .deferrable => s.holdDeferrable

/-- The budget test takes one member (R33). A member of forecast 0 fits whatever has been committed (R33, R39). -/
def budgetStep (s : State) (b : Budget) (c : Chan) : Budget :=
  let ch := chanAt s c
  if isPriority ch then
    { b with committed := b.committed + ch.forecast, entries := b.entries ++ [{ chan := c, priority := true }] }
  else if classHeld s ch.cfg.cls || s.busLow
      || (decide (ch.forecast ≠ 0) && decide (s.grant.fr < b.committed + ch.forecast)) then
    { b with shed := b.shed ++ [c] }
  else
    { b with committed := b.committed + ch.forecast, entries := b.entries ++ [{ chan := c, priority := false }] }

/-- The budget test over the sorted members (R33). -/
def budgetTest (s : State) (row : Row) : Budget :=
  (sortedMembers s row).foldl (budgetStep s) { committed := 0, entries := [], shed := [] }

/-- What a slot start decides (R27): nothing with the feed OFF, and nothing in a null slot (R13). -/
def admission (s : State) (row : Row) : Budget :=
  if s.feedOn && row.feed then budgetTest s row else { committed := 0, entries := [], shed := [] }

/-- The shed count of a channel rises by 1 (R34). -/
def countShed (s : State) (c : Chan) : State := modChan c (fun ch => { ch with shed := min shedMax (ch.shed + 1) }) s

/-- The admitted list is replaced and the counts and tallies of the slot start are taken (R21, R27, R34). -/
def applyAdmission (b : Budget) (s : State) : State :=
  let s := b.shed.foldl countShed s
  { s with
    admitted := b.entries
    tallies := { s.tallies with
      admitted := tallyAdd s.tallies.admitted b.entries.length, shed := tallyAdd s.tallies.shed b.shed.length } }

/-! ## Switch continuity and placement -/

/-- A channel at a slot start (R19, R20, R43, R104). `inList`: it is in the new admitted list. `exchange`: the row's
exchange flag. On at the slot end is having a switch-on in progress. A channel on at the slot end whose switch is opened for
good between it and the slot start (the feed OFF and ON again there) has none, and is switched on afresh where it is
admitted: R19's kept on set would let it continue, R26 and R68 have its switch open (the model's choice,
notes/assumptions/15.md). -/
def slotStartChannel (g : Globals) (now len : Nat) (inList exchange : Bool) (ch : Channel) : Channel :=
  let ch := { ch with entered := false, placement := none }
  if inList then
    let sw := if ch.sw.switchOn.isSome then ch.sw else closeSwitch g ch.cfg now ch.sw
    let ch := { ch with sw := sw, meter := { ch.meter with sampling := true } }
    if exchange then { ch with placement := placementOf now len ch } else ch
  else { ch with sw := openSwitch g now ch.sw, meter := { ch.meter with sampling := false } }

/-- A channel has an entry in the admitted list. -/
def isAdmitted (s : State) (c : Chan) : Bool := s.admitted.any fun e => e.chan = c

/-- The row the current slot takes (R14). -/
def currentRow (s : State) : Row := rowAt s (Fin.ofNat 32 (s.layout.origin + s.slotIndex))

/-- What every slot start does once the slot index stands (R5, R27): the bus is evaluated, members are admitted, the
switches act and exchanges are placed, and the probe engine looks if its waiting mark is set (R124). -/
def beginSlot (s : State) : State :=
  let s := evaluateBus { s with slotTime := 0, phase := .running }
  let row := currentRow s
  let s := applyAdmission (admission s row) s
  let s := mapChans (fun c ch => slotStartChannel s.globals s.ms s.layout.len (isAdmitted s c) row.exchange ch) s
  if s.waiting then look s else s

/-- Whether a slot start is due (R5, R6): after a slot end that does not end the frame, or after a frame opening. -/
def slotStartReady (s : State) : Bool :=
  match s.phase with
  | .running => false
  | .ended => s.slotIndex + 1 ≠ s.layout.slots
  | .opened => true

/-- The slot start (R5); at slot 0 the index is already 0 (R6). -/
def slotStart (s : State) : State :=
  beginSlot (match s.phase with
    | .ended => { s with slotIndex := s.slotIndex + 1 }
    | .running | .opened => s)

end Sys2Proof.Machine
end

