-- ==== Sys2Proof/Machine/Edits.lean ====
section
/-! DEFINITION. Applying posted edits and the frame opening (chapters 9.3, 9.4 and R6). -/

namespace Sys2Proof.Machine

/-- The kind of an edit. -/
def EditContent.kind : EditContent → EditKind
  | .rowSet .. => .rowSet
  | .rowAdd .. => .rowAdd
  | .rowDrop .. => .rowDrop
  | .channelConfig .. => .channelConfig
  | .layout .. => .layout
  | .globals .. => .globals
  | .classHold .. => .classHold
  | .floors .. => .floors

/-- Writes a roster row. -/
def setRow (r : RowIndex) (row : Row) (s : State) : State := { s with roster := s.roster.set r row }

/-- An edit is rejected (R150). -/
def rejectEdit (e : Edit) (reason : RejectReason) (row : RowIndex) (c : Chan) (s : State) : State :=
  report e.poster (some c) (.editReject e.tag e.content.kind reason row) s

/-- The configuration replaced (R88), with its effect on the switch (R82). -/
def configureChannel (cfg : ChanConfig) (t : Nat) (ch : Channel) : Channel :=
  { ch with cfg := cfg, sw := configureSwitch cfg t ch.sw }

/-- One entry of the edit queue is applied or rejected (R149 to R153). -/
def applyEdit (s : State) (e : Edit) : State :=
  match e.content with
  | .rowSet r fd ex ms => setRow r { feed := fd, exchange := ex, members := ms } s
  | .rowAdd r c =>
    let row := rowAt s r
    if row.members.contains c then rejectEdit e .alreadyMember r c s
    else if 4 ≤ row.members.length then rejectEdit e .rowFull r c s
    else setRow r { row with members := row.members ++ [c] } s
  | .rowDrop r c =>
    let row := rowAt s r
    if row.members.contains c then setRow r { row with members := row.members.erase c } s
    else rejectEdit e .notMember r c s
  | .channelConfig c cfg => modChan c (configureChannel cfg (us s.ms)) s
  | .layout l => { s with layout := l }
  | .globals g => { s with globals := g }
  | .classHold st df => { s with holdStandard := st, holdDeferrable := df }
  | .floors fl level => { s with floor := fl, alarmLevel := level }

/-- The edit queue applies every entry, oldest first, and is empty (R149). -/
def applyEdits (s : State) : State := { s.edits.foldl applyEdit s with edits := [] }

/-- The timebase's own part of a frame opening (R6). -/
def advanceFrame (s : State) : State :=
  { s with frame := (s.frame + 1) % 65536, slotIndex := 0, slotTime := 0, rotor := (s.rotor + 1) % 24 }

/-- FRAME is latched at both ports (R176). -/
def latchFrameCause (s : State) : State :=
  { s with
    service := { s.service with frameCause := true }
    energy := { s.energy with frameCause := true } }

/-- The frame opening (R6): the timebase, the edits, the grant, the test countdown, the FRAME cause. -/
def frameOpening (s : State) : State :=
  let s := latchGrant (applyEdits (advanceFrame s))
  let s := latchFrameCause (mapChans (fun _ ch => countFrame ch) s)
  { s with phase := .opened }

/-- Whether a frame opening is due (R6): after the slot end of slot S−1. -/
def frameOpeningReady (s : State) : Bool := decide (s.phase = .ended) && decide (s.slotIndex + 1 = s.layout.slots)

end Sys2Proof.Machine
end

