-- ==== Sys2Proof/Machine/Commands.lean ====
section
/-! DEFINITION. What each port command does when it executes (chapters 2.2, 5, 7.1, 8.2, 9, 10.4 to 10.6, 11), apart from
how its words and bytes arrive. Each checks the right, then the arguments, then the state (R166). -/

namespace Sys2Proof.Machine

/-! ## Votes (R22 to R26) and port reset (R170) -/

/-- A FEED_STATE record in both queues (R23 to R25). -/
def reportFeedState (changer : Port) (portReset : Bool) (s : State) : State :=
  let body : ReportBody := .feedState s.feedOn s.service.vote s.energy.vote changer portReset
  report .energy none body (report .service none body s)

/-- The feed turns ON (R23). -/
def feedOn (changer : Port) (s : State) : State := reportFeedState changer false { s with feedOn := true }

/-- The feed turns OFF (R24, R25): switches open, exchanges end ABANDONED, the records, VOTE_LOST at the other port. -/
def feedOff (changer : Port) (portReset : Bool) (s : State) : State :=
  let s := mapChans (fun _ ch => feedOffChannel s.globals s.ms ch) { s with feedOn := false }
  modPort (otherPort changer) (fun ps => { ps with voteLostCause := true }) (reportFeedState changer portReset s)

/-- Sets or clears a port's vote. -/
def setVote (p : Port) (on : Bool) (s : State) : State := modPort p (fun ps => { ps with vote := on }) s

/-- VOTE (R22 to R24). -/
def doVote (p : Port) (arg : Word) (s : State) : State :=
  match bits 7 0 arg with
  | 0 => done p .vote [] (let t := setVote p false s; if s.feedOn then feedOff p false t else t)
  | 1 =>
    done p .vote []
      (let t := setVote p true s
       if !s.feedOn && (portOf t (otherPort p)).vote then feedOn p t else t)
  | _ => refuse p .vote .badArgument s

/-- The port's own state emptied by a port reset (R170, R179): all but the loss mark and the arrival tag counter. -/
def clearPort (ps : PortState) : PortState :=
  { PortState.reset with lossMark := ps.lossMark, tagCounter := ps.tagCounter }

/-- The framing state a port reset returns (R170): the outgoing reply at the service port, the byte assembly and the
read position at the energy port. -/
def clearFraming (p : Port) (s : State) : State :=
  match p with
  | .service => { s with transaction := s.transaction.map fun t => { t with outgoing := [] } }
  | .energy => { s with assembly := .reset, readPos := 0 }

/-- The pending edits of a port are removed (R154, R155). -/
def removeEdits (p : Port) (s : State) : State := { s with edits := s.edits.filter fun e => e.poster ≠ p }

/-- RESET_PORT (R170). -/
def doResetPort (p : Port) (s : State) : State :=
  let s' := removeEdits p (clearFraming p (modPort p clearPort s))
  let s' := if s.feedOn then feedOff p true s' else s'
  done p .resetPort [statusWord s' p] s'

/-! ## Status, queue and causes -/

/-- NOP (R167). -/
def doNop (p : Port) (s : State) : State := done p .nop [statusWord s p] s

/-- STATUS (R167). -/
def doStatus (p : Port) (s : State) : State := done p .status [statusWord s p] s

/-- TAKE (R175). -/
def doTake (p : Port) (s : State) : State :=
  match (portOf s p).queue with
  | r :: rest => done p .take (reportWords r) (modPort p (fun ps => { ps with queue := rest }) s)
  | [] => refuse p .take .empty s

/-- ACK (R177): the latched causes named are cleared; LEVEL is not changed. -/
def doAck (p : Port) (arg : Word) (s : State) : State :=
  let c := causesOfWord arg
  done p .ack [] (modPort p (fun ps =>
    { ps with
      lossCause := ps.lossCause && !c.loss
      frameCause := ps.frameCause && !c.frame
      voteLostCause := ps.voteLostCause && !c.voteLost }) s)

/-- MASK (R178). -/
def doMask (p : Port) (arg : Word) (s : State) : State :=
  done p .mask [] (modPort p (fun ps => { ps with mask := causesOfWord arg }) s)

/-- WATERMARK (R177): the level lies in 1..48 at the service port and 1..16 at the energy port. -/
def doWatermark (p : Port) (arg : Word) (s : State) : State :=
  let n := bits 7 0 arg
  if 1 ≤ n ∧ n ≤ queueCapacity p then done p .watermark [] (modPort p (fun ps => { ps with watermark := n }) s)
  else refuse p .watermark .badArgument s

/-! ## The table window (chapter 10.5) -/

/-- SEEK (R168). -/
def doSeek (p : Port) (arg : Word) (s : State) : State :=
  match tableOf (bits 31 24 arg), directionOf (bits 15 8 arg) with
  | some t, some d =>
    if bits 23 16 arg < tableRecords t then
      done p .seek [] (modPort p (fun ps =>
        { ps with pointer := { table := t, index := bits 23 16 arg, dir := d, offset := 0 }, latch := none }) s)
    else refuse p .seek .badArgument s
  | _, _ => refuse p .seek .badArgument s

/-- The words of the record a pointer names, as it stands (R61, R102, R131, chapter 12.4). -/
def recordOf (s : State) (t : Table) (index : Nat) : List Word :=
  match t with
  | .roster => rosterWords (rowAt s (Fin.ofNat 32 index))
  | .channel => channelWords (Config.unstatedField s.freeCount) s.globals (chanAt s (Fin.ofNat 24 index))
  | .account => accountWords s
  | .probeQueue => [probeWord s.probeQueue[index]?]

/-- The record index one step on, in the pointer's direction (R168). -/
def stepIndex (t : Table) (d : Direction) (i : Nat) : Nat :=
  match d with
  | .up => if i + 1 < tableRecords t then i + 1 else 0
  | .down => if i = 0 then tableRecords t - 1 else i - 1

/-- The pointer after one word (R169, step 3). -/
def stepPointer (q : Pointer) : Pointer :=
  if q.offset + 1 < recordWords q.table then { q with offset := q.offset + 1 }
  else { q with offset := 0, index := stepIndex q.table q.dir q.index }

/-- Latching at a record's first word (R169, step 1). Each latch of a CHANNEL record takes fresh free values. -/
def latchRecord (p : Port) (s : State) : State :=
  let q := (portOf s p).pointer
  if q.offset = 0 then
    let s' := modPort p (fun ps => { ps with latch := some (recordOf s q.table q.index) }) s
    if q.table = .channel then { s' with freeCount := s.freeCount + 1 } else s'
  else s

/-- One word taken through the table window (R169). -/
def readWord (p : Port) (s : State) : Word × State :=
  let s := latchRecord p s
  let ps := portOf s p
  ((ps.latch.getD []).getD ps.pointer.offset 0, modPort p (fun ps => { ps with pointer := stepPointer ps.pointer }) s)

/-- n words taken one after another (R169). -/
def readWords (p : Port) : Nat → State → List Word × State
  | 0, s => ([], s)
  | n + 1, s =>
    let r := readWord p s
    let rest := readWords p n r.2
    (r.1 :: rest.1, rest.2)

/-- READ (R169). -/
def doRead (p : Port) (arg : Word) (s : State) : State :=
  let n := bits 7 0 arg
  if 1 ≤ n ∧ n ≤ 8 then
    let r := readWords p n s
    done p .read r.1 r.2
  else refuse p .read .badArgument s

/-! ## Edits (chapter 9) -/

/-- An accepted edit joins the queue with the port's next arrival tag (R146, R148). -/
def appendEdit (p : Port) (content : EditContent) (s : State) : State :=
  let tag := (portOf s p).tagCounter
  let s := modPort p (fun ps => { ps with tagCounter := (tag + 1) % 65536 }) { s with edits := s.edits ++ [{ poster := p, tag := tag, content := content }] }
  done p .post [wordOf [place 16 16 tag, place 8 0 s.edits.length]] s

/-- POST (R146). -/
def doPost (p : Port) (w1 w2 : Word) (s : State) : State :=
  match editKindOf (bits 31 24 w1) with
  | none => refuse p .post .badArgument s
  | some k =>
    if editPoster k ≠ p then refuse p .post .notPermitted s
    else
      match editOfWords k w1 w2 with
      | none => refuse p .post .badArgument s
      | some content => if editCapacity ≤ s.edits.length then refuse p .post .queueFull s else appendEdit p content s

/-- CANCEL_EDITS (R154). -/
def doCancelEdits (p : Port) (s : State) : State :=
  let t := removeEdits p s
  done p .cancelEdits [wordOf [place 8 8 (s.edits.length - t.edits.length), place 8 0 t.edits.length]] t

/-! ## Channel commands (R101) -/

/-- The result word of a channel command: the channel's state after it (chapter 12.2). -/
def lifeWord (s : State) (c : Chan) : Word := wordOf [place 8 0 (chanAt s c).life.code]

/-- A channel command answered DONE with the channel's state. -/
def doneChan (p : Port) (cmd : Cmd) (c : Chan) (s : State) : State := done p cmd [lifeWord s c] s

/-- The channel an argument word names in bits 31–24. -/
def argChan (arg : Word) : Option Chan := chanOf (bits 31 24 arg)

/-- The checks of R101, steps 1 and 2, before a channel command's own: the right, then the channel number. -/
def channelCommand (p : Port) (cmd : Cmd) (arg : Word) (s : State) (act : Chan → State) : State :=
  if cmd.permitted p then
    match argChan arg with
    | some c => act c
    | none => refuse p cmd .badArgument s
  else refuse p cmd .notPermitted s

/-- PROBE (R122, R123). The reply's occupancy is that after the arrival and its look (notes/assumptions/18.md). -/
def doProbe (p : Port) (arg : Word) (s : State) : State :=
  channelCommand p .probe arg s fun c =>
    let k := bits 23 16 arg
    if 1 < k then refuse p .probe .badArgument s
    else
      let r : ProbeRequest := { chan := c, pair := k = 1 }
      if (chanAt s c).life ≠ .dark || (r.pair && powered (chanAt s (partnerOf c)).life) then refuse p .probe .wrongState s
      else
        let answer (t : State) : State :=
          done p .probe [wordOf [place 8 24 (chanAt t c).life.code, place 8 0 t.probeQueue.length]] t
        if s.probeQueue.contains r then answer s
        else if s.probeQueue.length < probeCapacity then answer (appendProbe r s)
        else refuse p .probe .queueFull s

/-- WAKE (R89, R90, R129). -/
def doWake (p : Port) (arg : Word) (s : State) : State :=
  channelCommand p .wake arg s fun c =>
    let ch := chanAt s c
    if ch.life = .dark ∧ (ch.line = .unknown ∨ ch.line = .openLine ∨ ch.line = .signature) then
      doneChan p .wake c (cancelProbe c (modChan c wakeChannel s))
    else refuse p .wake .wrongState s

/-- RETIRE (R99, R129). -/
def doRetire (p : Port) (arg : Word) (s : State) : State :=
  channelCommand p .retire arg s fun c =>
    if (chanAt s c).life = .retired then refuse p .retire .wrongState s
    else doneChan p .retire c (cancelProbe c (enterRetired c s))

/-- RELEASE (R100). -/
def doRelease (p : Port) (arg : Word) (s : State) : State :=
  channelCommand p .release arg s fun c =>
    if (chanAt s c).life = .retired then
      doneChan p .release c (enterDark c .released none .noAnswer (modChan c (fun ch => { ch with strikes := 0 }) s))
    else refuse p .release .wrongState s

/-- CLEAR_FAULT (R98). -/
def doClearFault (p : Port) (arg : Word) (s : State) : State :=
  channelCommand p .clearFault arg s fun c =>
    if (chanAt s c).life ≠ .faulted then refuse p .clearFault .wrongState s
    else if (chanAt s c).strikes < lockStrikes then doneChan p .clearFault c (enterDark c .cleared none .noAnswer s)
    else refuse p .clearFault .locked s

/-- An accepted TEST (R134). -/
def requestTest (duration : Nat) (ch : Channel) : Channel :=
  { ch with
    mailbox := some { cmd := .beginTest, arg := duration }
    test := some { phase := .requested, duration := duration, remaining := 0, bandBefore := none, aborted := false } }

/-- TEST (R134). -/
def doTest (p : Port) (arg : Word) (s : State) : State :=
  channelCommand p .test arg s fun c =>
    let d := bits 23 16 arg
    let ch := chanAt s c
    if d = 0 ∨ 15 < d then refuse p .test .badArgument s
    else if ch.life ≠ .fed then refuse p .test .wrongState s
    else if ch.mailbox.isSome then refuse p .test .mailboxBusy s
    else if (match ch.status with | some r => r.inUse | none => false) then refuse p .test .wrongState s
    else doneChan p .test c (modChan c (requestTest d) s)

/-- BEGIN_TEST is on the line (R135). -/
def beginTestInFlight (ch : Channel) : Bool :=
  match ch.exchange with
  | some e => e.cmd = .beginTest
  | none => false

/-- ABORT_TEST (R135). -/
def doAbortTest (p : Port) (arg : Word) (s : State) : State :=
  channelCommand p .abortTest arg s fun c =>
    let ch := chanAt s c
    match ch.test with
    | none => refuse p .abortTest .wrongState s
    | some t =>
      match t.phase with
      | .requested =>
        if beginTestInFlight ch then refuse p .abortTest .wrongState s
        else doneChan p .abortTest c (endTest c .aborted s)
      | .running => doneChan p .abortTest c (modChan c (resumeChannel true) s)
      | .resuming => refuse p .abortTest .wrongState s

/-- SEND (R118). -/
def doSend (p : Port) (arg : Word) (s : State) : State :=
  channelCommand p .send arg s fun c =>
    let a := bits 15 8 arg
    let ch := chanAt s c
    match sendCmdOf (bits 23 16 arg) with
    | none => refuse p .send .badArgument s
    | some d =>
      if 15 < a ∨ ((d = .query ∨ d = .doze) ∧ a ≠ 0) then refuse p .send .badArgument s
      else if ch.life ≠ .fed then refuse p .send .wrongState s
      else if ch.mailbox.isSome then refuse p .send .mailboxBusy s
      else doneChan p .send c (modChan c (fun ch => { ch with mailbox := some { cmd := d, arg := a } }) s)

/-! ## The energy account's commands (R49, R52, R53) -/

/-- SET_GRANT (R49). -/
def doSetGrant (p : Port) (arg : Word) (s : State) : State :=
  let life := bits 31 24 arg
  let g := bits 23 0 arg
  if Cmd.permitted .setGrant p then
    if g ≤ grantCap then
      done p .setGrant []
        { s with grant := { s.grant with pending := g, unlimited := life = 0, life := life, expiryReported := false } }
    else refuse p .setGrant .badArgument s
  else refuse p .setGrant .notPermitted s

/-- DEPOSIT (R52), with RESERVE_OK where it takes the reserve back to the alarm level (R54). -/
def doDeposit (p : Port) (arg : Word) (s : State) : State :=
  let n := bits 31 0 arg
  if Cmd.permitted .deposit p then
    if n ≤ depositCap then
      let rp := min reserveCap (s.reserve + n * 1000)
      let t := { s with reserve := rp }
      let t := if belowAlarm s s.reserve && !belowAlarm s rp then report .energy none (.reserveOk rp s.alarmLevel) t else t
      done p .deposit [wordOf [rp]] t
    else refuse p .deposit .badArgument s
  else refuse p .deposit .notPermitted s

/-- DRAIN (R53). -/
def doDrain (p : Port) (s : State) : State :=
  if Cmd.permitted .drain p then done p .drain [wordOf [s.reserve]] { s with reserve := 0 }
  else refuse p .drain .notPermitted s

/-! ## Execution -/

/-- A command executes with its argument words (R159, R163). -/
def runCommand (cmd : Cmd) (p : Port) (args : List Word) (s : State) : State :=
  let a := args.getD 0 0
  match cmd with
  | .nop => doNop p s
  | .status => doStatus p s
  | .seek => doSeek p a s
  | .read => doRead p a s
  | .take => doTake p s
  | .ack => doAck p a s
  | .mask => doMask p a s
  | .watermark => doWatermark p a s
  | .vote => doVote p a s
  | .resetPort => doResetPort p s
  | .post => doPost p a (args.getD 1 0) s
  | .cancelEdits => doCancelEdits p s
  | .probe => doProbe p a s
  | .wake => doWake p a s
  | .retire => doRetire p a s
  | .release => doRelease p a s
  | .clearFault => doClearFault p a s
  | .test => doTest p a s
  | .abortTest => doAbortTest p a s
  | .send => doSend p a s
  | .setGrant => doSetGrant p a s
  | .deposit => doDeposit p a s
  | .drain => doDrain p s

/-- A code that names no command is refused with BAD_ARGUMENT, its reply naming the code received (R159). -/
def refuseUnknown (p : Port) (code : Byte) (s : State) : State := reply p code .badArgument [] s

end Sys2Proof.Machine
end

