-- ==== Sys2Proof/Machine/Framing.lean ====
section
/-! DEFINITION. How words and bytes make commands at the two ports (chapters 10.2 and 10.3). -/

namespace Sys2Proof.Machine

/-! ## The service port (R158 to R161) -/

/-- The word SDO carries in the word period that completes now, and the outgoing reply after it (R160). -/
def shiftOut (t : ServiceTransaction) : Word × List Word :=
  match t.outgoing with
  | w :: rest => (w, rest)
  | [] => (idleWord, [])

/-- A word period completes: SDO has carried a word, and the transaction is as `f` leaves it. -/
def passWord (t : ServiceTransaction) (f : ServiceTransaction → ServiceTransaction) (s : State) : State :=
  let o := shiftOut t
  { s with sdo := some o.1, transaction := some (f { t with outgoing := o.2 }) }

/-- The 32nd SCK period of a word (R159): the word joins the command, executes it when it is the last the command needs,
or is ignored once the transaction's command is over. With no transaction SCK and SDI are ignored (R161); none has begun
where nSEL fell while device reset held, and SDO then stays high impedance until nSEL falls again (the model's choice,
notes/assumptions/30.md). -/
def serviceWord (w : Word) (s : State) : State :=
  match s.transaction with
  | none => s
  | some t =>
    if t.done then passWord t id s
    else
      match t.words with
      | [] =>
        match Cmd.ofCode (commandByte w) with
        | none => refuseUnknown .service (commandByte w) (passWord t (fun t => { t with done := true }) s)
        | some cmd =>
          if cmd.argWords = 0 then runCommand cmd .service [] (passWord t (fun t => { t with done := true }) s)
          else passWord t (fun t => { t with words := [w] }) s
      | cw :: args =>
        match Cmd.ofCode (commandByte cw) with
        | none => passWord t (fun t => { t with done := true }) s
        | some cmd =>
          if args.length + 1 = cmd.argWords then
            runCommand cmd .service (args ++ [w]) (passWord t (fun t => { t with done := true }) s)
          else passWord t (fun t => { t with words := cw :: (args ++ [w]) }) s

/-- A transaction begins (R159, R160): the pending reply becomes the outgoing reply, or the empty reply word stands for it. -/
def serviceSelect (s : State) : State :=
  match s.transaction with
  | some _ => s
  | none =>
    let out := match s.service.reply with
      | some r => replyWords r
      | none => [emptyReplyWord]
    { s with
      service := { s.service with reply := none }
      transaction := some { words := [], done := false, outgoing := out }
      sdo := none }

/-- A transaction ends (R160, R161): the outgoing reply is discarded, and a command that lacks argument words is refused
with BAD_ARGUMENT. -/
def serviceDeselect (s : State) : State :=
  match s.transaction with
  | none => s
  | some t =>
    let s := { s with transaction := none, sdo := none }
    if t.done then s
    else
      match t.words with
      | [] => s
      | cw :: _ => reply .service (commandByte cw) .badArgument [] s

/-! ## The energy port (R162 to R165) -/

/-- The energy port's target address (R162, chapter 12.2). -/
def energyAddress (s : State) : BitVec 7 := BitVec.ofNat 7 (0x34 + 2 * s.strap1.toNat + s.strap0.toNat)

/-- The argument words a command byte needs. -/
def argWordsOf (b : Byte) : Nat :=
  match Cmd.ofCode b with
  | some cmd => cmd.argWords
  | none => 0

/-- The word in progress with one byte more, if it is complete (R163). -/
def wordOfPart : List Byte → Option Word
  | [a, b, c, d] => some (wordOfBytes a b c d)
  | _ => none

/-- A byte joins the word in progress in phase ARGUMENT (R163): the fourth completes the word, and the command's last
word executes it. -/
def joinByte (b : Byte) (s : State) : State :=
  let a := s.assembly
  match a.cmd with
  | none => s
  | some code =>
    match wordOfPart (a.part ++ [b]) with
    | none => { s with assembly := { a with part := a.part ++ [b] } }
    | some w =>
      let words := a.words ++ [w]
      if argWordsOf code ≤ words.length then
        let s := { s with assembly := .reset }
        match Cmd.ofCode code with
        | some cmd => runCommand cmd .energy words s
        | none => s
      else { s with assembly := { a with words := words, part := [] } }

/-- A lone STATUS code that opened this write is an argument byte after all, since the write goes on (R164). -/
def flushLone (s : State) : State :=
  if s.assembly.lone then joinByte Cmd.status.code { s with assembly := { s.assembly with lone := false } } else s

/-- A byte taken in a write transaction, acknowledged (R162). -/
def countByte (n : Nat) (s : State) : State := { s with bus := .write (n + 1), ackOut := true }

/-- A command byte in phase COMMAND (R163). -/
def takeCommandByte (b : Byte) (s : State) : State :=
  match Cmd.ofCode b with
  | none => refuseUnknown .energy b s
  | some cmd =>
    if cmd.argWords = 0 then runCommand cmd .energy [] s
    else { s with assembly := { cmd := some b, words := [], part := [], lone := false } }

/-- A byte written to the energy port (R163, R164). The first byte of a write in phase ARGUMENT, when it is the STATUS
code, waits until the write goes on or ends. -/
def energyByte (b : Byte) (s : State) : State :=
  match s.bus with
  | .idle | .read => s
  | .write n =>
    let s := countByte n (flushLone s)
    if s.assembly.cmd.isNone then takeCommandByte b s
    else if n = 0 ∧ b = Cmd.status.code then { s with assembly := { s.assembly with lone := true } }
    else joinByte b s

/-- The one-byte STATUS write in phase ARGUMENT (R164): the command held is discarded, then STATUS executes. -/
def loneStatus (s : State) : State := doStatus .energy { s with assembly := .reset }

/-- A transaction on the energy port's bus ends (R164). -/
def energyStop (s : State) : State :=
  match s.bus with
  | .write _ => { (if s.assembly.lone then loneStatus s else s) with bus := .idle }
  | .idle | .read => { s with bus := .idle }

/-- The address byte after a start or a repeated start, which ends a transaction in progress (R162). -/
def energyAddressed (b : Byte) (s : State) : State :=
  let s := energyStop s
  if b.extractLsb' 1 7 = energyAddress s then
    { s with bus := if b.getLsbD 0 then .read else .write 0, ackOut := true }
  else { s with ackOut := false }

/-- The bytes of a reply (R165). -/
def replyBytes (r : Reply) : List Byte := (replyWords r).flatMap bytesOf

/-- A byte of a read transaction (R165): the next byte of the pending reply, or the port status byte. -/
def energyReadByte (s : State) : State :=
  match s.bus with
  | .idle | .write _ => s
  | .read =>
    match s.energy.reply with
    | none => { s with sda := portStatusByte s }
    | some r =>
      let bs := replyBytes r
      let s' := { s with sda := bs.getD s.readPos 0 }
      if s.readPos + 1 < bs.length then { s' with readPos := s.readPos + 1 }
      else { s' with readPos := 0, energy := { s.energy with reply := none } }

/-! ## The instant a command's last word or byte arrives -/

/-- The argument words that a service-port command's last word completes: those taken before it and the last. -/
def serviceDue (cmd : Cmd) (args : List Word) (s : State) : Bool :=
  match s.transaction with
  | none => false
  | some t =>
    !t.done && (match args with
      | [] => t.words.isEmpty
      | _ :: _ =>
        match t.words with
        | [] => false
        | cw :: before => decide (commandByte cw = cmd.code) && decide (before = args.dropLast))

/-- The bytes of phase ARGUMENT held so far, in order. -/
def heldBytes (a : Assembly) : List Byte := a.words.flatMap bytesOf ++ a.part

/-- Whether an energy-port command's last byte can arrive now: in phase COMMAND its command byte, where it takes no
argument words; in phase ARGUMENT the last byte of its last word. -/
def energyDue (cmd : Cmd) (args : List Word) (s : State) : Bool :=
  match s.bus with
  | .idle | .read => false
  | .write n =>
    match args.flatMap bytesOf with
    | [] => s.assembly.cmd.isNone
    | b :: bs =>
      decide (s.assembly.cmd = some cmd.code) && decide (heldBytes s.assembly = (b :: bs).dropLast)
        && !(decide (n = 0) && decide ((b :: bs).getLast? = some Cmd.status.code))

/-- Whether the word or byte that completes command `cmd` with argument words `args` can arrive at port p now (R159,
R163). While device reset holds, the ports take no transaction (R161, R171). -/
def commandDue (p : Port) (cmd : Cmd) (args : List Word) (s : State) : Bool :=
  !s.inReset && (match p with
    | .service => serviceDue cmd args s
    | .energy => energyDue cmd args (flushLone s))

/-- The framing state once that word or byte has arrived. -/
def commandTaken (p : Port) (s : State) : State :=
  match p with
  | .service =>
    match s.transaction with
    | some t => passWord t (fun t => { t with done := true }) s
    | none => s
  | .energy =>
    let s := flushLone s
    match s.bus with
    | .write n => { countByte n s with assembly := .reset }
    | .idle | .read => s

/-- A command of the table executes at a port: the word or byte that completes it arrives, and it acts. Where that word or
byte cannot arrive the step leaves the state as it stands (notes/assumptions/3.md, notes/assumptions/8.md). -/
def atPort (p : Port) (cmd : Cmd) (args : List Word) (act : State → State) (s : State) : State :=
  if commandDue p cmd args s then act (commandTaken p s) else s

end Sys2Proof.Machine
end

