-- ==== Sys2Proof/Machine/PortSteps.lean ====
section
/-! DEFINITION. The steps of the control ports: the framing steps, and one step for each command of the command set
(chapter 10). -/

namespace Sys2Proof.Machine

/-! ## Framing -/

/-- SERVICE_SELECT (R159). -/
def execServiceSelect (s : State) : Host.Outcome State Fault Refusal := whenLive s (serviceSelect s)

/-- SERVICE_DESELECT (R161). -/
def execServiceDeselect (s : State) : Host.Outcome State Fault Refusal := whenLive s (serviceDeselect s)

/-- SERVICE_WORD_COMPLETION (R159, R160). -/
def execServiceWordCompletion (w : Word) (s : State) : Host.Outcome State Fault Refusal := whenLive s (serviceWord w s)

/-- ENERGY_ADDRESS_BYTE (R162). -/
def execEnergyAddressByte (b : Byte) (s : State) : Host.Outcome State Fault Refusal := whenLive s (energyAddressed b s)

/-- ENERGY_COMMAND_BYTE (R163): a byte written in phase COMMAND. -/
def execEnergyCommandByte (b : Byte) (s : State) : Host.Outcome State Fault Refusal :=
  whenLive s (if (flushLone s).assembly.cmd.isNone then energyByte b s else s)

/-- ENERGY_ARGUMENT_BYTE (R163): a byte written in phase ARGUMENT. -/
def execEnergyArgumentByte (b : Byte) (s : State) : Host.Outcome State Fault Refusal :=
  whenLive s (if s.assembly.cmd.isSome then energyByte b s else s)

/-- ENERGY_READ_BYTE (R165). -/
def execEnergyReadByte (s : State) : Host.Outcome State Fault Refusal := whenLive s (energyReadByte s)

/-- ENERGY_STOP_CONDITION (R164). -/
def execEnergyStopCondition (s : State) : Host.Outcome State Fault Refusal := whenLive s (energyStop s)

/-! ## Commands at either port -/

/-- Whether a code that names no command can arrive at port p now as a command (R159, R163). -/
def unknownDue (p : Port) (code : Byte) (s : State) : Bool :=
  (Cmd.ofCode code).isNone && !s.inReset && (match p with
    | .service => (match s.transaction with | some t => !t.done && t.words.isEmpty | none => false)
    | .energy => energyDue .nop [] (flushLone s))

/-- UNKNOWN_COMMAND (R159). -/
def execUnknownCommand (p : Port) (code : Byte) (s : State) : Host.Outcome State Fault Refusal :=
  .next (if unknownDue p code s then refuseUnknown p code (commandTaken p s) else s)

/-- NOP (R167). -/
def execNop (p : Port) (s : State) : Host.Outcome State Fault Refusal := .next (atPort p .nop [] (doNop p) s)

/-- STATUS arriving as a write of exactly one byte while the energy port's assembly is in phase ARGUMENT (R164): the byte
has been taken and waits for the write's end, or the write has taken no byte yet. -/
def oneByteStatus (s : State) : Bool :=
  s.assembly.lone || (s.assembly.cmd.isSome && decide (s.bus = .write 0))

/-- That write's byte, where it is still to come, and the write's end, which makes it STATUS (R164). -/
def statusWrite (s : State) : State :=
  energyStop (if s.assembly.lone then s else energyByte Cmd.status.code s)

/-- STATUS (R167). In phase ARGUMENT at the energy port it is the one-byte write (R164). -/
def execStatus (p : Port) (s : State) : Host.Outcome State Fault Refusal :=
  .next (if p = .energy ∧ oneByteStatus s ∧ !s.inReset then statusWrite s else atPort p .status [] (doStatus p) s)

/-- SEEK (R168). -/
def execSeek (p : Port) (arg : Word) (s : State) : Host.Outcome State Fault Refusal := .next (atPort p .seek [arg] (doSeek p arg) s)

/-- READ (R169). -/
def execRead (p : Port) (arg : Word) (s : State) : Host.Outcome State Fault Refusal := .next (atPort p .read [arg] (doRead p arg) s)

/-- TAKE (R175). -/
def execTake (p : Port) (s : State) : Host.Outcome State Fault Refusal := .next (atPort p .take [] (doTake p) s)

/-- ACK (R177). -/
def execAck (p : Port) (arg : Word) (s : State) : Host.Outcome State Fault Refusal := .next (atPort p .ack [arg] (doAck p arg) s)

/-- MASK (R178). -/
def execMask (p : Port) (arg : Word) (s : State) : Host.Outcome State Fault Refusal := .next (atPort p .mask [arg] (doMask p arg) s)

/-- WATERMARK (R177). -/
def execWatermark (p : Port) (arg : Word) (s : State) : Host.Outcome State Fault Refusal :=
  .next (atPort p .watermark [arg] (doWatermark p arg) s)

/-- VOTE (R22). -/
def execVote (p : Port) (arg : Word) (s : State) : Host.Outcome State Fault Refusal := .next (atPort p .vote [arg] (doVote p arg) s)

/-- RESET_PORT (R170). -/
def execResetPort (p : Port) (s : State) : Host.Outcome State Fault Refusal := .next (atPort p .resetPort [] (doResetPort p) s)

/-- POST (R146). -/
def execPost (p : Port) (arg1 arg2 : Word) (s : State) : Host.Outcome State Fault Refusal :=
  .next (atPort p .post [arg1, arg2] (doPost p arg1 arg2) s)

/-- CANCEL_EDITS (R154). -/
def execCancelEdits (p : Port) (s : State) : Host.Outcome State Fault Refusal :=
  .next (atPort p .cancelEdits [] (doCancelEdits p) s)

/-! ## Commands of the service port -/

/-- PROBE (R122). -/
def execProbe (p : Port) (arg : Word) (s : State) : Host.Outcome State Fault Refusal := .next (atPort p .probe [arg] (doProbe p arg) s)

/-- WAKE (R89). -/
def execWake (p : Port) (arg : Word) (s : State) : Host.Outcome State Fault Refusal := .next (atPort p .wake [arg] (doWake p arg) s)

/-- RETIRE (R99). -/
def execRetire (p : Port) (arg : Word) (s : State) : Host.Outcome State Fault Refusal :=
  .next (atPort p .retire [arg] (doRetire p arg) s)

/-- RELEASE (R100). -/
def execRelease (p : Port) (arg : Word) (s : State) : Host.Outcome State Fault Refusal :=
  .next (atPort p .release [arg] (doRelease p arg) s)

/-- CLEAR_FAULT (R98). -/
def execClearFault (p : Port) (arg : Word) (s : State) : Host.Outcome State Fault Refusal :=
  .next (atPort p .clearFault [arg] (doClearFault p arg) s)

/-- TEST (R134). -/
def execTest (p : Port) (arg : Word) (s : State) : Host.Outcome State Fault Refusal := .next (atPort p .test [arg] (doTest p arg) s)

/-- ABORT_TEST (R135). -/
def execAbortTest (p : Port) (arg : Word) (s : State) : Host.Outcome State Fault Refusal :=
  .next (atPort p .abortTest [arg] (doAbortTest p arg) s)

/-- SEND (R118). -/
def execSend (p : Port) (arg : Word) (s : State) : Host.Outcome State Fault Refusal := .next (atPort p .send [arg] (doSend p arg) s)

/-! ## Commands of the energy port -/

/-- SET_GRANT (R49). -/
def execSetGrant (p : Port) (arg : Word) (s : State) : Host.Outcome State Fault Refusal :=
  .next (atPort p .setGrant [arg] (doSetGrant p arg) s)

/-- DEPOSIT (R52). -/
def execDeposit (p : Port) (arg : Word) (s : State) : Host.Outcome State Fault Refusal :=
  .next (atPort p .deposit [arg] (doDeposit p arg) s)

/-- DRAIN (R53). -/
def execDrain (p : Port) (s : State) : Host.Outcome State Fault Refusal := .next (atPort p .drain [] (doDrain p) s)

end Sys2Proof.Machine
end

