-- ==== Sys2Proof/Machine/ProbeSteps.lean ====
section
/-! DEFINITION. The steps of the probe engine: PROBE_END_LINE and PROBE_END_PAIR (chapter 7.3). -/

namespace Sys2Proof.Machine

/-- Where a line voltage reading saturates (R126). -/
def lineReadingMax : Nat := 1200

/-- The outcome of a LINE probe by its reading in units of 10 mV (R126). -/
def lineOutcome (v : Nat) : ProbeOutcome :=
  if v ≤ 49 then .short
  else if 350 ≤ v ∧ v ≤ 650 then .signature
  else if 901 ≤ v then .openLine
  else .foreign

/-- What a LINE outcome does to its channel, which is DARK (R126, R96). -/
def actLine (c : Chan) (o : ProbeOutcome) (s : State) : State :=
  match o with
  | .short => enterFaulted c .short none (modChan c (fun ch => { ch with line := .short }) s)
  | .foreign => enterFaulted c .foreign none (modChan c (fun ch => { ch with line := .foreign }) s)
  | .signature =>
    modChan c (fun ch =>
      let ch := { ch with line := .signature }
      if ch.cfg.autoWake then wakeChannel ch else ch) s
  | .openLine => modChan c (fun ch => { ch with line := .openLine }) s
  | .clear | .crossed | .cancelled | .notQueued => s

/-- A probe of this kind has reached its end (R125), and nothing that falls before it is still to be taken. -/
def probeEndDue (p : Probe) (pair : Bool) (s : State) : Bool := decide (p.partner.isSome = pair) && timely (us p.stop) s

/-- The end of a LINE probe (R126): the record, the outcome, then a look. An outcome for a channel that is not DARK changes
nothing of it (R87, R96). -/
def probeEndLine (reading : Nat) (s : State) : State :=
  match s.probe with
  | some p =>
    if probeEndDue p false s then
      let v := min reading lineReadingMax
      let t := reportProbe p.request (lineOutcome v) (some v) { s with probe := none }
      look (if (chanAt t p.chan).life = .dark then actLine p.chan (lineOutcome v) t else t)
    else s
  | none => s

/-- The states from which a partner is faulted by CROSSED (R127, R97). -/
def partnerFaults (life : Life) : Bool :=
  match life with
  | .dark | .waking | .fed | .resuming | .testing => true
  | .faulted | .retired => false

/-- A channel faulted by CROSSED (R127). -/
def crossChannel (c partner : Chan) (s : State) : State :=
  enterFaulted c .crossed (some partner) (modChan c (fun ch => { ch with pair := .crossed }) s)

/-- What a PAIR outcome does to the probed channel, which is DARK, and to its partner (R127). -/
def actPair (c partner : Chan) (crossed : Bool) (s : State) : State :=
  if crossed then
    let s := crossChannel c partner s
    if partnerFaults (chanAt s partner).life then crossChannel partner c s else s
  else modChan c (fun ch => { ch with pair := .clear }) s

/-- The end of a PAIR probe (R127): the record, the outcome at both channels, then a look. -/
def probeEndPair (reading : Nat) (s : State) : State :=
  match s.probe with
  | some p =>
    if probeEndDue p true s then
      let crossed := decide (10 < reading)
      let t := reportProbe p.request (if crossed then .crossed else .clear) (some reading) { s with probe := none }
      look (if (chanAt t p.chan).life = .dark then actPair p.chan (partnerOf p.chan) crossed t else t)
    else s
  | none => s

/-- PROBE_END_LINE. -/
def execProbeEndLine (reading : Nat) (s : State) : Host.Outcome State Fault Refusal := whenLive s (probeEndLine reading s)

/-- PROBE_END_PAIR. -/
def execProbeEndPair (reading : Fin 65535) (s : State) : Host.Outcome State Fault Refusal :=
  whenLive s (probeEndPair reading.val s)

end Sys2Proof.Machine
end

