-- ==== Sys2Proof/Machine/SwitchSteps.lean ====
section
/-! DEFINITION. The steps of the feed switches: OPEN_LOAD_LOST, SWITCH_ON_COMPLETE, RAMP_END, CHOP_PERIOD_START, TRIP_ASSERT,
OVERCURRENT_ASSERT, DETECTOR_LEVEL_CROSSING (chapter 4). -/

namespace Sys2Proof.Machine

/-- Changes a channel's switch. -/
def modSwitch (c : Chan) (f : FeedSwitch → FeedSwitch) (s : State) : State :=
  modChan c (fun ch => { ch with sw := f ch.sw }) s

/-- LOST reaches the channel table (R80, R93). -/
def openLoadLost (c : Chan) (s : State) : State :=
  let ch := chanAt s c
  if ch.lostDue && (ch.life = .fed || ch.life = .resuming) then goOpenLoad c s else s

/-- The completion of a switch-on, part of the sample event of its completion instant (R70). -/
def switchOnComplete (c : Chan) (s : State) : State :=
  match (chanAt s c).sw.switchOn with
  | some o =>
    if o.completion ≤ s.ms && timely (us o.completion) s then modSwitch c (completeSwitch s.globals) s else s
  | none => s

/-- The ramp end instant (R67): a switch in RAMPING becomes ON; one in CHOP_OFF has abandoned its ramp. -/
def rampEnd (c : Chan) (s : State) : State :=
  let sw := (chanAt s c).sw
  match sw.switchOn with
  | some o =>
    if sw.state = .ramping && timely (us o.rampEnd) s then modSwitch c (fun sw => { sw with state := .on }) s else s
  | none => s

/-- A chop period start (R74). -/
def chopPeriodStart (c : Chan) (s : State) : State :=
  let ch := chanAt s c
  match ch.sw.switchOn with
  | some o => if timely (us (nextChop o)) s then modSwitch c (startChop s.globals ch.cfg s.ms o) s else s
  | none => s

/-- A fault handed by the switch reaches the channel table from a powered state (R84, R97). -/
def faultFromSwitch (c : Chan) (cause : StateCause) (s : State) : State :=
  if powered (chanAt s c).life then enterFaulted c cause none s else s

/-- A trip asserts (R75), and LIMIT with the eighth in a row (R76). -/
def tripAssert (c : Chan) (s : State) : State :=
  let ch := chanAt s c
  match ch.sw.switchOn, tripDeadline ch with
  | some o, some d =>
    if armed ch.sw && timely d s then
      let s := modSwitch c (tripSwitch d o) s
      if tripLimit ≤ (chanAt s c).sw.tripCount then faultFromSwitch c .limit s else s
    else s
  | _, _ => s

/-- Overcurrent asserts (R77). -/
def overcurrentAssert (c : Chan) (s : State) : State :=
  let ch := chanAt s c
  match ocDeadline ch with
  | some d => if armed ch.sw && timely d s then faultFromSwitch c .overcurrent s else s
  | none => s

/-- The sensed current crosses a detector's level, `instant` µs into the current millisecond (R73, R77). -/
def levelCrossing (c : Chan) (current : Nat) (instant : Fin 1001) (s : State) : State :=
  let t := us s.ms + instant.val
  if timely t s then modChan c (senseCurrent t current) s else s

/-- OPEN_LOAD_LOST. -/
def execOpenLoadLost (c : Chan) (s : State) : Host.Outcome State Fault Refusal := whenLive s (openLoadLost c s)

/-- SWITCH_ON_COMPLETE. -/
def execSwitchOnComplete (c : Chan) (s : State) : Host.Outcome State Fault Refusal := whenLive s (switchOnComplete c s)

/-- RAMP_END. -/
def execRampEnd (c : Chan) (s : State) : Host.Outcome State Fault Refusal := whenLive s (rampEnd c s)

/-- CHOP_PERIOD_START. -/
def execChopPeriodStart (c : Chan) (s : State) : Host.Outcome State Fault Refusal := whenLive s (chopPeriodStart c s)

/-- TRIP_ASSERT. -/
def execTripAssert (c : Chan) (s : State) : Host.Outcome State Fault Refusal := whenLive s (tripAssert c s)

/-- OVERCURRENT_ASSERT. -/
def execOvercurrentAssert (c : Chan) (s : State) : Host.Outcome State Fault Refusal := whenLive s (overcurrentAssert c s)

/-- DETECTOR_LEVEL_CROSSING. -/
def execDetectorLevelCrossing (c : Chan) (current : Nat) (instant : Fin 1001) (s : State) : Host.Outcome State Fault Refusal :=
  whenLive s (levelCrossing c current instant s)

end Sys2Proof.Machine
end

