-- ==== Sys2Proof/Machine/TimebaseSteps.lean ====
section
/-! DEFINITION. The steps of reset and of the timebase: DEVICE_RESET, RESET_RELEASE, SAMPLE_EVENT, SLOT_END, FRAME_OPENING,
SLOT_START (chapters 1 and 3). -/

namespace Sys2Proof.Machine

/-- DEVICE_RESET (R171, R2, R64, R85): every block returns to its values after device reset, with no record and no
outcome. The commands that wait stay queued, and the free values are not drawn again. -/
def execDeviceReset (s : State) : Host.Outcome State Fault Refusal :=
  .next { State.reset with pending := s.pending, freeCount := s.freeCount }

/-- RESET_RELEASE (R2, R162): the straps are read, and frame 0 opens at slot 0 with a slot start. -/
def execResetRelease (adr1 adr0 : Bool) (s : State) : Host.Outcome State Fault Refusal :=
  .next (if s.inReset then beginSlot { s with inReset := false, strap1 := adr1, strap0 := adr0 } else s)

/-- SAMPLE_EVENT (R42 to R44, R3), and the uplink marks that close in its millisecond (R109). -/
def execSampleEvent (bus : Nat) (readings : Vector Reading 24) (s : State) : Host.Outcome State Fault Refusal :=
  whenLive s (if sampleReady s then sampleEvent bus readings s else s)

/-- SLOT_END (R4, R45). -/
def execSlotEnd (s : State) : Host.Outcome State Fault Refusal := whenLive s (if slotEndReady s then slotEnd s else s)

/-- FRAME_OPENING (R6). -/
def execFrameOpening (s : State) : Host.Outcome State Fault Refusal :=
  whenLive s (if frameOpeningReady s then frameOpening s else s)

/-- SLOT_START (R5). -/
def execSlotStart (s : State) : Host.Outcome State Fault Refusal := whenLive s (if slotStartReady s then slotStart s else s)

end Sys2Proof.Machine
end

