-- ==== Sys2Proof/Machine/Dispatch.lean ====
section
/-! DEFINITION. What each command does to the block, one arm per row of spec/opcode_table.json. -/

namespace Sys2Proof.Machine

/-- The effect of a command on everything but the queue of waiting commands. -/
def exec (i : Instr) (s : State) : Host.Outcome State Fault Refusal :=
  match i with
  | .deviceReset => Sys2Proof.Machine.execDeviceReset s
  | .resetRelease adr1 adr0 => Sys2Proof.Machine.execResetRelease adr1 adr0 s
  | .sampleEvent bus readings => Sys2Proof.Machine.execSampleEvent bus readings s
  | .openLoadLost c => Sys2Proof.Machine.execOpenLoadLost c s
  | .switchOnComplete c => Sys2Proof.Machine.execSwitchOnComplete c s
  | .slotEnd => Sys2Proof.Machine.execSlotEnd s
  | .frameOpening => Sys2Proof.Machine.execFrameOpening s
  | .slotStart => Sys2Proof.Machine.execSlotStart s
  | .rampEnd c => Sys2Proof.Machine.execRampEnd c s
  | .chopPeriodStart c => Sys2Proof.Machine.execChopPeriodStart c s
  | .tripAssert c => Sys2Proof.Machine.execTripAssert c s
  | .overcurrentAssert c => Sys2Proof.Machine.execOvercurrentAssert c s
  | .exchangeStart c => Sys2Proof.Machine.execExchangeStart c s
  | .downlinkEnd c baseline => Sys2Proof.Machine.execDownlinkEnd c baseline s
  | .answerStart c instant rise => Sys2Proof.Machine.execAnswerStart c instant rise s
  | .windowExpiry c => Sys2Proof.Machine.execWindowExpiry c s
  | .uplinkEnd c average => Sys2Proof.Machine.execUplinkEnd c average s
  | .probeEndLine reading => Sys2Proof.Machine.execProbeEndLine reading s
  | .probeEndPair reading => Sys2Proof.Machine.execProbeEndPair reading s
  | .serviceSelect => Sys2Proof.Machine.execServiceSelect s
  | .serviceDeselect => Sys2Proof.Machine.execServiceDeselect s
  | .energyAddressByte b => Sys2Proof.Machine.execEnergyAddressByte b s
  | .energyArgumentByte b => Sys2Proof.Machine.execEnergyArgumentByte b s
  | .energyReadByte => Sys2Proof.Machine.execEnergyReadByte s
  | .unknownCommand p code => Sys2Proof.Machine.execUnknownCommand p code s
  | .nop p => Sys2Proof.Machine.execNop p s
  | .status p => Sys2Proof.Machine.execStatus p s
  | .seek p arg => Sys2Proof.Machine.execSeek p arg s
  | .read p arg => Sys2Proof.Machine.execRead p arg s
  | .take p => Sys2Proof.Machine.execTake p s
  | .ack p arg => Sys2Proof.Machine.execAck p arg s
  | .mask p arg => Sys2Proof.Machine.execMask p arg s
  | .watermark p arg => Sys2Proof.Machine.execWatermark p arg s
  | .vote p arg => Sys2Proof.Machine.execVote p arg s
  | .resetPort p => Sys2Proof.Machine.execResetPort p s
  | .post p arg1 arg2 => Sys2Proof.Machine.execPost p arg1 arg2 s
  | .cancelEdits p => Sys2Proof.Machine.execCancelEdits p s
  | .probe p arg => Sys2Proof.Machine.execProbe p arg s
  | .wake p arg => Sys2Proof.Machine.execWake p arg s
  | .retire p arg => Sys2Proof.Machine.execRetire p arg s
  | .release p arg => Sys2Proof.Machine.execRelease p arg s
  | .clearFault p arg => Sys2Proof.Machine.execClearFault p arg s
  | .test p arg => Sys2Proof.Machine.execTest p arg s
  | .abortTest p arg => Sys2Proof.Machine.execAbortTest p arg s
  | .send p arg => Sys2Proof.Machine.execSend p arg s
  | .setGrant p arg => Sys2Proof.Machine.execSetGrant p arg s
  | .deposit p arg => Sys2Proof.Machine.execDeposit p arg s
  | .drain p => Sys2Proof.Machine.execDrain p s
  | .detectorLevelCrossing c current instant => Sys2Proof.Machine.execDetectorLevelCrossing c current instant s
  | .energyCommandByte b => Sys2Proof.Machine.execEnergyCommandByte b s
  | .energyStopCondition => Sys2Proof.Machine.execEnergyStopCondition s
  | .serviceWordCompletion w => Sys2Proof.Machine.execServiceWordCompletion w s

end Sys2Proof.Machine
end

