-- ==== Sys2Proof/Safety.lean ====
section
/-! DEFINITION. What the statements about the block speak in: the port a command belongs to, what an opening, a departure
and an entry to an unpowered state leave, and the invariants a running block keeps. Each is said here apart from the
meanings, as the rule it names says it. -/

namespace Sys2Proof.Machine

/-! ## Who acts -/

/-- The port a command arrives at, where it is a port's command or framing (chapter 10). -/
def commandPort : Instr → Option Port
  | .deviceReset | .resetRelease _ _ | .sampleEvent _ _ | .openLoadLost _ | .switchOnComplete _ | .slotEnd | .frameOpening
  | .slotStart | .rampEnd _ | .chopPeriodStart _ | .tripAssert _ | .overcurrentAssert _ | .exchangeStart _
  | .downlinkEnd _ _ | .answerStart _ _ _ | .windowExpiry _ | .uplinkEnd _ _ | .probeEndLine _ | .probeEndPair _
  | .detectorLevelCrossing _ _ _ => none
  | .serviceSelect | .serviceDeselect | .serviceWordCompletion _ => some .service
  | .energyAddressByte _ | .energyArgumentByte _ | .energyReadByte | .energyCommandByte _ | .energyStopCondition => some .energy
  | .unknownCommand p _ | .nop p | .status p | .seek p _ | .read p _ | .take p | .ack p _ | .mask p _ | .watermark p _
  | .vote p _ | .resetPort p | .post p _ _ | .cancelEdits p | .probe p _ | .wake p _ | .retire p _ | .release p _
  | .clearFault p _ | .test p _ | .abortTest p _ | .send p _ | .setGrant p _ | .deposit p _ | .drain p => some p

/-- The row of the table for a command of the command set with its argument words (R166). -/
def commandRow (cmd : Cmd) (p : Port) (args : List Word) : Instr :=
  let a := args.getD 0 0
  match cmd with
  | .nop => .nop p
  | .status => .status p
  | .seek => .seek p a
  | .read => .read p a
  | .take => .take p
  | .ack => .ack p a
  | .mask => .mask p a
  | .watermark => .watermark p a
  | .vote => .vote p a
  | .resetPort => .resetPort p
  | .post => .post p a (args.getD 1 0)
  | .cancelEdits => .cancelEdits p
  | .probe => .probe p a
  | .wake => .wake p a
  | .retire => .retire p a
  | .release => .release p a
  | .clearFault => .clearFault p a
  | .test => .test p a
  | .abortTest => .abortTest p a
  | .send => .send p a
  | .setGrant => .setGrant p a
  | .deposit => .deposit p a
  | .drain => .drain p

/-! ## Records -/

/-- A port with the records `bodies` of channel `c` entered one after another (R173), in frame `frame` and slot `slot`. -/
def withRecords (frame slot : Nat) (c : Chan) (bodies : List ReportBody) (ps : PortState) : PortState :=
  bodies.foldl (fun ps b => enterRecord 48 { frame := frame, slot := slot, afterLoss := false, chan := some c, body := b } ps) ps

/-! ## Openings, departures, entries to the unpowered states -/

/-- The ramp code after a completion with the adapt flag set, by the table of R71. -/
def adaptedByTable (g : Globals) (peak code : Nat) : Nat :=
  if g.target < peak then min 7 (code + g.gain)
  else if peak < g.target / 2 then max 0 (code - 1)
  else code

/-- A switch `sw'` is `sw` opened for good at time `now` (R68). A switch-on whose completion sample has been taken and which
has not completed yet completes first, with its peak and its adaptation (R69 to R71); one opened before it is cut short,
and keeps both. The opening takes the sensed current away (the model's choice, notes/assumptions/14.md). -/
def OpenedFrom (g : Globals) (now : Nat) (sw sw' : FeedSwitch) : Prop :=
  match sw.switchOn with
  | none => sw' = sw
  | some o =>
    let completes : Bool := !o.completed && decide (o.completion ≤ now)
    sw' = { sw with
      state := .opened, switchOn := none, tripTimer := none, ocTimer := none, sensed := 0, closedMs := false
      lastPeak := if completes then o.peak else sw.lastPeak
      rampCode := if completes && o.adapt then adaptedByTable g o.peak sw.rampCode else sw.rampCode }

/-- A powered channel's switch, exchange and sampling after a departure (R94); an unpowered channel's stay. -/
def DepartedFrom (g : Globals) (now : Nat) (x y : Channel) : Prop :=
  if powered x.life then
    OpenedFrom g now x.sw y.sw ∧ y.exchange = none ∧ y.placement = none ∧ y.meter = { x.meter with sampling := false }
  else y.sw = x.sw ∧ y.exchange = x.exchange ∧ y.placement = x.placement ∧ y.meter = x.meter

/-- The records an entry to an unpowered state makes (R95): the transition's own, the TEST_RESULT, the MAILBOX_DONE. -/
def entryRecords (own : Option ReportBody) (outcome : TestOutcome) (x : Channel) : List ReportBody :=
  own.toList
    ++ (match x.test with
      | some t => [testEnding outcome t 0]
      | none => [])
    ++ (match (if x.test.isSome then x.mailbox.filter fun m => m.cmd ≠ .beginTest else x.mailbox) with
      | some m => [.mailboxDone .dropped m 0 none]
      | none => [])

/-- What an entry to an unpowered state leaves of a channel `x` (R94, R95): no test, no mailbox command, a stale status
record, and nothing else changed but the state, its cause, the line and pair results and the strikes, which the
transition gives. -/
def UnpoweredEntry (g : Globals) (now : Nat) (x y : Channel) : Prop :=
  DepartedFrom g now x y ∧
    y = { x with
      life := y.life
      cause := y.cause
      line := y.line
      pair := y.pair
      strikes := y.strikes
      test := none
      mailbox := none
      status := x.status.map fun r => { r with stale := true }
      sw := y.sw
      exchange := y.exchange
      placement := y.placement
      meter := y.meter
      exchangeMs := y.exchangeMs
      lostDue := y.lostDue }

/-- What the feed turning OFF leaves of a channel (R24): its switch open, no exchange, and the rest as it was. -/
def FeedOffChannel (g : Globals) (now : Nat) (x y : Channel) : Prop :=
  OpenedFrom g now x.sw y.sw ∧
    y = { x with placement := none, exchange := none, exchangeMs := y.exchangeMs, sw := y.sw }

/-! ## Answers -/

/-- Hours on battery after an answer (R116): a STATUS answer's payload, else as they were. -/
def answerHours (a : Answer) (old : Option StatusRecord) : Option Nat :=
  if a.kind = .status then some a.payload else old.bind StatusRecord.hours

/-- The terminal status record after an answer in frame `frame` (R116). -/
def answerRecord (frame : Nat) (a : Answer) (old : Option StatusRecord) : StatusRecord :=
  { band := a.band, inUse := a.inUse, charging := a.charging, alarm := a.alarm, hours := answerHours a old,
    lastAnswer := frame, stale := false }

/-- The status fields a STATUS_CHANGE carries after an answer (R117). -/
def answerFields (a : Answer) (old : Option StatusRecord) : StatusFields :=
  { band := a.band, inUse := a.inUse, charging := a.charging, alarm := a.alarm, hours := answerHours a old }

/-- A STATUS_CHANGE is due (R117): the record was absent or stale, or its in-use or alarm differs from the answer's. -/
def changeIsDue (a : Answer) (old : Option StatusRecord) : Bool :=
  match old with
  | none => true
  | some r => r.stale || r.inUse != a.inUse || r.alarm != a.alarm

/-- The in-use and alarm a STATUS_CHANGE carries as the values before (R117): none where the record was absent or stale. -/
def priorValues (old : Option StatusRecord) : Option (Bool × Nat) :=
  match old with
  | none => none
  | some r => if r.stale then none else some (r.inUse, r.alarm)

/-! ## Energy -/

/-- What a channel's meter holds, in units of 10 mV × 1 mA × 1 ms (R47). -/
def heldEnergy (m : Meter) : Nat := 100 * (1000 * m.totalMJ + m.sub + m.acc) + m.residue

/-- The products a command adds to a channel's meter (R44): only a sample event that is taken adds one, to a channel that
is sampling. -/
def sampledBy (i : Instr) (s : State) (c : Chan) : Nat :=
  match i with
  | .sampleEvent bus readings =>
    if !s.inReset && sampleReady s && (chanAt s c).meter.sampling then min bus 6000 * min readings[c].current 1023 else 0
  | _ => 0

/-! ## Invariants -/

/-- The feed is ON exactly while both votes are set (R23). -/
def FeedAgrees (s : State) : Prop := s.feedOn = (s.service.vote && s.energy.vote)

/-- A switch that is not OPEN belongs to an admitted channel in a powered state with the feed ON, and has a switch-on in
progress; an OPEN one has none (R66). -/
def SwitchesSound (s : State) : Prop :=
  ∀ c : Chan,
    ((chanAt s c).sw.switchOn = none ↔ (chanAt s c).sw.state = .opened) ∧
    ((chanAt s c).sw.state ≠ .opened → s.feedOn = true ∧ isAdmitted s c = true ∧ powered (chanAt s c).life = true)

/-- The test context, the mailbox and the exchange in flight of a channel go with its state (R133, R118, R106). -/
def TestMatches (ch : Channel) : Prop :=
  (match ch.test with
    | some t =>
      (match t.phase with
        | .requested => ch.life = .fed ∧ ch.mailbox = some { cmd := .beginTest, arg := t.duration }
        | .running => ch.life = .testing
        | .resuming => ch.life = .resuming)
    | none => ch.life ≠ .testing ∧ ch.life ≠ .resuming ∧ ch.mailbox.map Mailbox.cmd ≠ some .beginTest) ∧
  (ch.mailbox ≠ none → ch.life = .fed) ∧
  (match ch.exchange with
    | some e =>
      powered ch.life = true ∧
        (e.cmd ≠ .wake → e.cmd ≠ .keep → e.cmd ≠ .resultQuery → ch.mailbox = some { cmd := e.cmd, arg := e.arg })
    | none => True)

/-- Every channel's test context matches its state. -/
def TestsMatch (s : State) : Prop := ∀ c : Chan, TestMatches (chanAt s c)

/-- A placement lies ahead and leaves 100 ms of its slot (R104); an exchange in flight has its next step ahead of the
clock, has received exactly the marks that have closed, but for the 24th (R103, R109), and ends at least 0.5 ms before the
slot end (R110). `slotEndsAt` is the slot end in ms. -/
def ExchangeInSlot (now slotEndsAt : Nat) (ch : Channel) : Prop :=
  (match ch.placement with
    | some t => now ≤ t ∧ t + 100 ≤ slotEndsAt
    | none => True) ∧
  (match ch.exchange with
    | some e =>
      us now ≤ exchangeDeadline e ∧ e.start + 100 ≤ slotEndsAt ∧
        (match e.phase, e.answerStart with
          | .uplink, some a =>
            us e.start + 32000 ≤ a ∧ a ≤ us e.start + 51500 ∧ e.marks.length = min 23 ((us now - a) / 2000)
          | .uplink, none => False
          | .downlink, _ => e.marks = []
          | .window, _ => e.marks = [])
    | none => True)

/-- Every exchange lies inside the slot that placed it (R110): outside a running slot no channel has one. -/
def ExchangesFit (s : State) : Prop :=
  s.slotTime ≤ s.layout.len ∧
    (s.phase = .running → ∀ c : Chan, ExchangeInSlot s.ms (s.ms + s.layout.len - s.slotTime) (chanAt s c)) ∧
    (s.phase ≠ .running → ∀ c : Chan, (chanAt s c).placement = none ∧ (chanAt s c).exchange = none)

/-- The probe queue holds at most 32 entries and none twice, and the probe in progress is one of a DARK channel, with its
pair partner where it is a PAIR probe, and lasts 20 or 30 ms (R121, R125, R129). -/
def ProbesSound (s : State) : Prop :=
  s.probeQueue.length ≤ 32 ∧ s.probeQueue.Nodup ∧
    (match s.probe with
      | some p =>
        (chanAt s p.chan).life = .dark ∧
          ((p.partner = none ∧ p.stop = p.start + 20) ∨ (p.partner = some (partnerOf p.chan) ∧ p.stop = p.start + 30))
      | none => True)

/-- A layout is in the ranges of R1. -/
def LayoutInRange (l : Layout) : Prop :=
  4 ≤ l.slots ∧ l.slots ≤ 32 ∧ 20 ≤ l.len ∧ l.len ≤ 500 ∧ l.len % 10 = 0 ∧ l.origin ≤ 31

/-- A member list is one a roster row may hold (R12). -/
def MembersInRange (ms : List Chan) : Prop := ms.length ≤ 4 ∧ ms.Nodup

/-- A configuration is in the ranges of R88. -/
def ConfigInRange (cfg : ChanConfig) : Prop :=
  1 ≤ cfg.wakeLimit ∧ cfg.wakeLimit ≤ 7 ∧ cfg.defaultForecast ≤ 10000 ∧ cfg.rampCode ≤ 7

/-- The global switch settings are in the ranges of R81. -/
def GlobalsInRange (g : Globals) : Prop :=
  100 ≤ g.target ∧ g.target ≤ 800 ∧ g.target % 50 = 0 ∧ 1 ≤ g.gain ∧ g.gain ≤ 3

/-- A pending edit carries values in range (R147). -/
def EditInRange (e : Edit) : Prop :=
  match e.content with
  | .rowSet _ _ _ ms => MembersInRange ms
  | .rowAdd _ _ => True
  | .rowDrop _ _ => True
  | .channelConfig _ cfg => ConfigInRange cfg
  | .layout l => LayoutInRange l
  | .globals g => GlobalsInRange g
  | .classHold _ _ => True
  | .floors fl level => fl ≤ 6000 ∧ level ≤ 4000000

/-- Every pending edit carries values in range. -/
def EditsInRange (s : State) : Prop := ∀ e ∈ s.edits, EditInRange e

/-- The admitted list holds at most the four members of a row, none twice (R21). -/
def AdmittedInRange (es : List Entry) : Prop := es.length ≤ 4 ∧ (es.map Entry.chan).Nodup

/-- The timebase, the roster, the admitted list, the global settings and the pending edits stay in the ranges of R1, R8, R12,
R21, R81 and R147. -/
def FrameInRange (s : State) : Prop :=
  LayoutInRange s.layout ∧ s.frame < 65536 ∧ s.slotIndex < s.layout.slots ∧ s.rotor < 24 ∧ s.slotTime ≤ s.layout.len ∧
    (∀ r : RowIndex, MembersInRange (rowAt s r).members) ∧ AdmittedInRange s.admitted ∧ GlobalsInRange s.globals ∧ EditsInRange s

/-- No tally passes the value at which it saturates (R57). -/
def TalliesInRange (t : Tallies) : Prop :=
  t.spent ≤ 4294967295 ∧ t.drawn ≤ 4294967295 ∧ t.overdraw ≤ 4294967295 ∧ t.admitted ≤ 4294967295 ∧ t.shed ≤ 4294967295 ∧
    t.busLow ≤ 4294967295

/-- The account stays in the ranges of R41, R48, R51, R52, R54, R57 and R60. -/
def AccountInRange (s : State) : Prop :=
  s.reserve ≤ 4000000000 ∧ s.grant.fr ≤ 1000 * s.grant.latched ∧ s.grant.latched ≤ 1000000 ∧ s.grant.pending ≤ 1000000 ∧
    s.grant.life ≤ 255 ∧ s.alarmLevel ≤ 4000000 ∧ s.floor ≤ 6000 ∧ s.busSample ≤ 6000 ∧ TalliesInRange s.tallies ∧
    EditsInRange s

/-- A switch's ramp code, trip count and inrush peaks stay in the ranges of R65. -/
def SwitchInRange (sw : FeedSwitch) : Prop :=
  sw.rampCode ≤ 7 ∧ sw.tripCount ≤ 8 ∧ sw.lastPeak ≤ 1023 ∧ ∀ o, sw.switchOn = some o → o.peak ≤ 1023

/-- A terminal status record's fields stay in the ranges their marks have (R116, chapter 12.1). -/
def StatusInRange (r : StatusRecord) : Prop :=
  r.band ≤ 15 ∧ r.alarm ≤ 7 ∧ (∀ h, r.hours = some h → h ≤ 31) ∧ r.lastAnswer < 65536

/-- A test context's fields stay in the ranges of R133. -/
def TestInRange (k : TestContext) : Prop :=
  1 ≤ k.duration ∧ k.duration ≤ 15 ∧ k.remaining ≤ 15 ∧ ∀ b, k.bandBefore = some b → b ≤ 15

/-- The counts of a channel stay in the ranges of R65 and R85: a WAKING channel has an attempt left before 7, a FED or
RESUMING one, and one whose test is running, a miss before the third, and one without a LOST due a low reading before the
160th. -/
def CountsInRange (ch : Channel) : Prop :=
  ch.strikes ≤ 3 ∧ ch.shed ≤ 65535 ∧ ch.attempts ≤ 7 ∧ (ch.life = .waking → ch.attempts ≤ 6) ∧ ch.misses ≤ 3 ∧
    (ch.life = .fed ∨ ch.life = .resuming ∨ ch.test.map TestContext.phase = some .running → ch.misses ≤ 2) ∧ ch.sw.openLoad ≤ 160 ∧
    (ch.life = .fed ∨ ch.life = .resuming → ch.lostDue = false → ch.sw.openLoad ≤ 159)

/-- A channel's record, switch and meter stay in the ranges of R41, R65, R85, R88, R116, R118 and R133. -/
def ChannelInRange (ch : Channel) : Prop :=
  CountsInRange ch ∧ SwitchInRange ch.sw ∧ ch.meter.residue < 100 ∧ ch.meter.sub < 1000 ∧ ch.meter.totalMJ ≤ 4294967295 ∧
    ConfigInRange ch.cfg ∧ (∀ r, ch.status = some r → StatusInRange r) ∧ (∀ m, ch.mailbox = some m → m.arg ≤ 15) ∧
    (∀ k, ch.test = some k → TestInRange k) ∧ (∀ e, ch.exchange = some e → e.arg ≤ 15)

/-- Every channel is in range, and so is the frame number its status record takes. -/
def ChannelsInRange (s : State) : Prop := (∀ c : Chan, ChannelInRange (chanAt s c)) ∧ s.frame < 65536 ∧ EditsInRange s

/-- A channel's forecast is one slot's energy at most (R39). Its slot accumulator holds no more than the samples of the slot
so far can add (R44), belongs to an admitted channel, and is 0 where no slot runs (R41, R45). -/
def EnergyInRange (s : State) (c : Chan) : Prop :=
  let ch := chanAt s c
  ch.forecast ≤ 30690000 ∧ ch.cfg.defaultForecast ≤ 10000 ∧ ch.meter.residue < 100 ∧
    100 * ch.meter.acc + ch.meter.residue ≤ 99 + 6138000 * s.slotTime ∧
    (isAdmitted s c = false → ch.meter.acc = 0 ∧ ch.meter.sampling = false) ∧
    (s.phase ≠ .running ∨ s.inReset = true → ch.meter.acc = 0 ∧ ch.meter.sampling = false)

/-- Every slot accumulator and forecast is in the range of R39 and R41: at most 30,690,000 µJ, since a slot has at most 500
samples. -/
def EnergiesInRange (s : State) : Prop := FrameInRange s ∧ ∀ c : Chan, EnergyInRange s c

/-- What a port holds stays in range, its queue and watermark within `cap` (R148, R157, R166, R168, R169, R172, R177). A
pointer inside a record has that record latched. -/
def PortInRange (cap : Nat) (ps : PortState) : Prop :=
  ps.queue.length ≤ cap ∧ 1 ≤ ps.watermark ∧ ps.watermark ≤ cap ∧ ps.tagCounter < 65536 ∧
    ps.pointer.index < tableRecords ps.pointer.table ∧ ps.pointer.offset < recordWords ps.pointer.table ∧
    (ps.pointer.offset ≠ 0 → ∃ ws, ps.latch = some ws ∧ ws.length = recordWords ps.pointer.table) ∧
    (∀ r, ps.reply = some r → r.words.length ≤ 8)

/-- The byte assembly holds nothing in phase COMMAND, and less than its command's words in phase ARGUMENT (R163). -/
def AssemblyInRange (a : Assembly) : Prop :=
  match a.cmd with
  | none => a.words = [] ∧ a.part = [] ∧ a.lone = false
  | some code => a.words.length < argWordsOf code ∧ a.part.length ≤ 3

/-- The ports, their queues and framing hold no more than the rules let them (R145, R148, R157, R163, R165, R173, R177). -/
def QueuesBounded (s : State) : Prop :=
  PortInRange 48 s.service ∧ PortInRange 16 s.energy ∧ s.edits.length ≤ 16 ∧ (∀ e ∈ s.edits, e.tag < 65536) ∧
    AssemblyInRange s.assembly ∧ (s.energy.reply = none → s.readPos = 0) ∧
    (∀ r, s.energy.reply = some r → s.readPos < 4 * (r.words.length + 1))

end Sys2Proof.Machine
end

