-- ==== Sys2Proof/Certificates/Slice0/Obligations.lean ====
section
/-! DEFINITION. The statements about the block, for the provers. Each says which rules of spec/ it formalises. -/

open Sys2Proof Sys2Proof.Machine

/-! ## The machine: one step, reset -/

/-- A step runs the command at the front of the queue on the state with the rest of it; with none waiting the block idles
(the queue is the model's own, notes/assumptions/2.md). No command ends a run, and none touches the commands that wait. -/
def Obligations.StepRunsFrontCommand : Prop :=
  (∀ (c : Instr) (rest : List Instr) (s : State), s.pending = c :: rest → step s = exec c { s with pending := rest }) ∧
  (∀ s : State, s.pending = [] → step s = .next s) ∧
  (∀ (c : Instr) (s : State), ∃ t, exec c s = .next t ∧ t.pending = s.pending)

/-- The values after device reset that the rules' tables give (R2, R18, R21, R41, R48, R52, R54, R57, R60, R85, R103, R157), with
the byte assembly in COMMAND with nothing held and the read position at the start (R163, R170, R171). -/
def Obligations.ResetLeavesStatedValues : Prop :=
  let s := State.reset
  s.layout = { slots := 24, len := 100, origin := 0 } ∧ s.frame = 0 ∧ s.slotIndex = 0 ∧ s.rotor = 0 ∧ s.slotTime = 0 ∧
  (∀ r : RowIndex, rowAt s r = { feed := false, exchange := false, members := [] }) ∧
  s.service.vote = false ∧ s.energy.vote = false ∧ s.feedOn = false ∧ s.admitted = [] ∧ s.busLow = false ∧
  s.holdStandard = false ∧ s.holdDeferrable = false ∧ s.busSample = 0 ∧
  s.grant = { pending := 0, unlimited := false, life := 0, expiryReported := true, latched := 0, fr := 0 } ∧
  s.reserve = 0 ∧ s.alarmLevel = 0 ∧ s.floor = 0 ∧
  s.tallies = { spent := 0, drawn := 0, overdraw := 0, admitted := 0, shed := 0, busLow := 0 } ∧
  (∀ c : Chan, let ch := chanAt s c
    ch.life = .dark ∧ ch.cause = .noCause ∧ ch.line = .unknown ∧ ch.pair = .untested ∧ ch.strikes = 0 ∧
    ch.cfg = { cls := .standard, tripLevel := 1, tripDeglitch := 1, ocDeglitch := 1, openLoadCode := 0, autoWake := false,
               wakeLimit := 3, defaultForecast := 2000, rampCode := 3, adaptation := true } ∧
    ch.forecast = 2000000 ∧ ch.attempts = 0 ∧ ch.misses = 0 ∧ ch.shed = 0 ∧ ch.status = none ∧ ch.mailbox = none ∧
    ch.test = none ∧ ch.seq = false ∧ ch.placement = none ∧ ch.exchange = none ∧
    ch.meter.residue = 0 ∧ ch.meter.acc = 0 ∧ ch.meter.sub = 0 ∧ ch.meter.totalMJ = 0 ∧
    ch.sw.state = .opened ∧ ch.sw.rampCode = 3 ∧ ch.sw.switchOn = none ∧ ch.sw.tripCount = 0 ∧ ch.sw.tripTimer = none ∧
    ch.sw.ocTimer = none ∧ ch.sw.openLoad = 0 ∧ ch.sw.lastPeak = 0) ∧
  s.globals = { chopCode := 1, target := 300, gain := 1 } ∧ s.probeQueue = [] ∧ s.probe = none ∧ s.waiting = false ∧
  s.edits = [] ∧
  (∀ p : Port, let ps := portOf s p
    ps.reply = none ∧ ps.pointer = { table := .roster, index := 0, dir := .up, offset := 0 } ∧ ps.latch = none ∧
    ps.queue = [] ∧ causesOf ps = .none ∧ ps.lossMark = false ∧ ps.mask = .none ∧ ps.watermark = 1 ∧ ps.tagCounter = 0) ∧
  s.assembly.cmd = none ∧ s.assembly.words = [] ∧ s.assembly.part = [] ∧ s.readPos = 0 ∧ sattn s = false ∧ eattn s = false

/-- DEVICE_RESET at any state returns every block to its values after device reset, with no record (R171); the queue of
commands and the counter of free values are the model's own and stay (notes/assumptions/24.md). RESET_RELEASE then reads
the straps and opens frame 0 at slot 0, applying no edit, latching nothing and latching no cause (R2). -/
def Obligations.ResetThenRelease : Prop :=
  (∀ s : State, exec .deviceReset s = .next { State.reset with pending := s.pending, freeCount := s.freeCount }) ∧
  (∀ (adr1 adr0 : Bool) (q : List Instr) (n : Nat),
    exec (.resetRelease adr1 adr0) { State.reset with pending := q, freeCount := n } =
      .next { State.reset with pending := q, freeCount := n, inReset := false, strap1 := adr1, strap0 := adr0 })

/-- While device reset holds, no other command does anything (R2, R42, R161, R171); released already, RESET_RELEASE does
nothing (the model's choice, notes/assumptions/3.md). -/
def Obligations.DeviceResetHolds : Prop :=
  (∀ (i : Instr) (s : State), s.inReset = true → i ≠ .deviceReset → (∀ a b, i ≠ .resetRelease a b) → exec i s = .next s) ∧
  (∀ (a b : Bool) (s : State), s.inReset = false → exec (.resetRelease a b) s = .next s)

/-! ## Shared operations -/

/-- A record enters a queue by the table of R173: with room it is appended, carrying the loss mark as after_loss, and the
mark is clear; at a full queue it is dropped, the mark set and LOSS latched. Nothing else of the port changes. It carries the
frame number and slot index of the timebase (R7), and a channel's record goes to the service queue (R174). -/
def Obligations.RecordEntryFollowsTable : Prop :=
  (∀ (p : Port) (c : Option Chan) (body : ReportBody) (s : State),
    report p c body s =
      modPort p (enterRecord (queueCapacity p)
        { frame := s.frame, slot := s.slotIndex, afterLoss := false, chan := c, body := body }) s) ∧
  (∀ (c : Chan) (body : ReportBody) (s : State), reportChan c body s = report .service (some c) body s) ∧
  ∀ (p : Port) (r : Report) (ps : PortState),
    let cap := match p with
      | .service => 48
      | .energy => 16
    (ps.queue.length < cap →
      enterRecord (queueCapacity p) r ps = { ps with queue := ps.queue ++ [{ r with afterLoss := ps.lossMark }], lossMark := false }) ∧
    (cap ≤ ps.queue.length → enterRecord (queueCapacity p) r ps = { ps with lossMark := true, lossCause := true })

/-- A reply replaces the pending reply whole, and at the energy port the next read begins at its first byte (R157, R165);
the word or byte that completes a command takes the framing of its port alone: at the service port one word of the
outgoing reply goes out and the transaction's command is over (R159, R160), at the energy port the byte is acknowledged
and the assembly returns to COMMAND with nothing held (R163). A lone STATUS code that waits with three bytes of a word held
completes that word first (`Obligations.LoneStatusFreesAssembly`). -/
def Obligations.PortPlumbing : Prop :=
  (∀ (code : Byte) (o : ReplyCode) (ws : List Word) (s : State),
    reply .service code o ws s = { s with service := { s.service with reply := some { code := code, outcome := o, words := ws } } } ∧
    reply .energy code o ws s =
      { s with energy := { s.energy with reply := some { code := code, outcome := o, words := ws } }, readPos := 0 }) ∧
  (∀ (s : State) (t : ServiceTransaction), s.transaction = some t →
    commandTaken .service s =
      { s with transaction := some { t with done := true, outgoing := t.outgoing.tail },
               sdo := some (t.outgoing.headD 0xFFFFFFFF) }) ∧
  (∀ (s : State) (n : Nat), s.bus = .write n → s.assembly.lone = false ∨ s.assembly.part.length < 3 →
    commandTaken .energy s =
      { s with bus := .write (n + 1), ackOut := true,
               assembly := { cmd := none, words := [], part := [], lone := false } })

/-- Entries to the unpowered states. DARK (R94 to R96, R123): the effects of R94 and R95 with their records, the state and
its cause, the line and pair results, and then the LINE request where the cause makes one. FAULTED (R97): the same, one
strike more, at most 3, and the FAULT record first, which names the state left. RETIRED (R99): the same with no record of
its own, keeping the cause, the results and the strikes. No other channel changes. A TEST_RESULT without a result holds the
outcome, the phase, the duration and the aborted flag; in RUNNING and RESUMING the frames run, duration less remaining, and
band_before; no band_after and no estimate; and the refused code, 0 but for REFUSED (R144). That a switch's opening takes the
sensed current to 0 is the model's choice (notes/assumptions/14.md). -/
def Obligations.UnpoweredEntries : Prop :=
  (∀ (outcome : TestOutcome) (k : TestContext) (code : Nat),
    testEnding outcome k code =
      if k.phase = .requested then .testResult outcome .requested k.duration 0 none none none k.aborted code
      else .testResult outcome k.phase k.duration (k.duration - k.remaining) k.bandBefore none none k.aborted code) ∧
  (∀ (c : Chan) (cause : StateCause) (own : Option ReportBody) (outcome : TestOutcome) (s : State), ∃ u,
    enterDark c cause own outcome s =
      (if cause = .silent ∨ cause = .openLoad ∨ cause = .cleared ∨ cause = .released then requestLine c u else u) ∧
    u = { s with channels := u.channels,
                 service := withRecords s.frame s.slotIndex c (entryRecords own outcome (chanAt s c)) s.service } ∧
    (∀ d, d ≠ c → chanAt u d = chanAt s d) ∧ UnpoweredEntry s.globals s.ms (chanAt s c) (chanAt u c) ∧
    (chanAt u c).life = .dark ∧ (chanAt u c).cause = cause ∧
    (chanAt u c).line =
      (if cause = .silent ∨ cause = .openLoad ∨ cause = .cleared ∨ cause = .released then .unknown else (chanAt s c).line) ∧
    (chanAt u c).pair = (if cause = .cleared ∨ cause = .released then .untested else (chanAt s c).pair) ∧
    (chanAt u c).strikes = (chanAt s c).strikes) ∧
  (∀ (c : Chan) (cause : StateCause) (partner : Option Chan) (s : State),
    let u := enterFaulted c cause partner s
    let strikes := min 3 ((chanAt s c).strikes + 1)
    u = { s with channels := u.channels,
                 service := withRecords s.frame s.slotIndex c
                   (entryRecords (some (.fault cause (chanAt s c).life strikes partner)) .faulted (chanAt s c)) s.service } ∧
    (∀ d, d ≠ c → chanAt u d = chanAt s d) ∧ UnpoweredEntry s.globals s.ms (chanAt s c) (chanAt u c) ∧
    (chanAt u c).life = .faulted ∧ (chanAt u c).cause = cause ∧ (chanAt u c).strikes = strikes ∧
    (chanAt u c).line = (chanAt s c).line ∧ (chanAt u c).pair = (chanAt s c).pair) ∧
  (∀ (c : Chan) (s : State),
    let u := enterRetired c s
    u = { s with channels := u.channels,
                 service := withRecords s.frame s.slotIndex c (entryRecords none .retired (chanAt s c)) s.service } ∧
    (∀ d, d ≠ c → chanAt u d = chanAt s d) ∧ UnpoweredEntry s.globals s.ms (chanAt s c) (chanAt u c) ∧
    (chanAt u c).life = .retired ∧ (chanAt u c).cause = (chanAt s c).cause ∧ (chanAt u c).strikes = (chanAt s c).strikes ∧
    (chanAt u c).line = (chanAt s c).line ∧ (chanAt u c).pair = (chanAt s c).pair)

/-- A look of the IDLE engine (R124, R125): `before` are the entries examined ahead of the first serviceable one. Those
whose channel is not DARK are removed with PROBE_RESULT CANCELLED, the PAIR entries whose partner is powered keep their
places, and the serviceable entry starts. With none serviceable nothing starts, and the waiting mark is set unless the
queue was empty. While BUSY there is no look. While a probe is in progress the probed channel's FEED output carries the bias
source, and for a PAIR its partner's is tied to RTN through the sense path; channels 2k and 2k+1 are each other's partner.
Two clauses are the model's choice: the waiting mark is set after a look that
cancelled every entry (notes/assumptions/19.md), and a probe's start and stop count from s.ms (notes/assumptions/6.md). The channel table's LINE request arrives by the table of R123: merged, appended
with a look, or dropped at a full queue with PROBE_RESULT NOT_QUEUED. -/
def Obligations.LookServesOldest : Prop :=
  (∀ k, (h : k < 12) → partnerOf ⟨2 * k, by omega⟩ = ⟨2 * k + 1, by omega⟩ ∧ partnerOf ⟨2 * k + 1, by omega⟩ = ⟨2 * k, by omega⟩) ∧
  (∀ (s : State) (p : Probe) (t : Nat), s.probe = some p →
    feedOutput t s p.chan = .bias ∧ (∀ d, p.partner = some d → d ≠ p.chan → feedOutput t s d = .sense)) ∧
  (∀ (s : State),
    let live : ProbeRequest → Bool := fun r => (chanAt s r.chan).life = .dark
    let waits : ProbeRequest → Bool := fun r => live r && r.pair && powered (chanAt s (partnerOf r.chan)).life
    let cancelled : List ProbeRequest → State → State := fun q u =>
      (q.filter fun r => !live r).foldl (fun u r => { u with
        service := withRecords u.frame u.slotIndex r.chan
          [.probeResult r.pair (if r.pair then some (partnerOf r.chan) else none) .cancelled none] u.service }) u
    (s.probe ≠ none → look s = s) ∧
    (s.probe = none → s.probeQueue = [] → look s = { s with waiting := false }) ∧
    (∀ (before : List ProbeRequest) (r : ProbeRequest) (rest : List ProbeRequest),
      s.probe = none → s.probeQueue = before ++ r :: rest → (∀ b ∈ before, live b = false ∨ waits b = true) →
      live r = true → waits r = false →
      look s = { cancelled before s with
        probeQueue := before.filter waits ++ rest
        waiting := false
        probe := some { chan := r.chan, partner := if r.pair then some (partnerOf r.chan) else none, start := s.ms,
                        stop := s.ms + (if r.pair then 30 else 20) } }) ∧
    (s.probe = none → s.probeQueue ≠ [] → (∀ b ∈ s.probeQueue, live b = false ∨ waits b = true) →
      look s = { cancelled s.probeQueue s with probeQueue := s.probeQueue.filter waits, waiting := true })) ∧
  (∀ (c : Chan) (s : State),
    let r : ProbeRequest := { chan := c, pair := false }
    (r ∈ s.probeQueue → requestLine c s = s) ∧
    (r ∉ s.probeQueue → s.probeQueue.length < 32 → requestLine c s = look { s with probeQueue := s.probeQueue ++ [r] }) ∧
    (r ∉ s.probeQueue → 32 ≤ s.probeQueue.length →
      requestLine c s = { s with service := withRecords s.frame s.slotIndex c [.probeResult false none .notQueued none] s.service }))

/-- The eight edit kinds applied (R150 to R153, R82): what each changes, the rejections of ROW_ADD and ROW_DROP with their
records in the poster's queue, and nothing else. A CHANNEL_CONFIG starts the timers of armed detectors again under the new
values and leaves those of disarmed ones. That the sensed current is the one last told is the model's choice
(notes/assumptions/14.md). -/
def Obligations.EditsApplyByKind : Prop :=
  ∀ (s : State) (e : Edit),
    let rejected : EditKind → RejectReason → RowIndex → Chan → State := fun kind reason r c =>
      report e.poster (some c) (.editReject e.tag kind reason r) s
    (∀ r fd ex ms, e.content = .rowSet r fd ex ms →
      applyEdit s e = { s with roster := s.roster.set r { feed := fd, exchange := ex, members := ms } }) ∧
    (∀ r c, e.content = .rowAdd r c →
      (c ∈ (rowAt s r).members → applyEdit s e = rejected .rowAdd .alreadyMember r c) ∧
      (c ∉ (rowAt s r).members → 4 ≤ (rowAt s r).members.length → applyEdit s e = rejected .rowAdd .rowFull r c) ∧
      (c ∉ (rowAt s r).members → (rowAt s r).members.length < 4 →
        applyEdit s e = { s with roster := s.roster.set r { rowAt s r with members := (rowAt s r).members ++ [c] } })) ∧
    (∀ r c, e.content = .rowDrop r c →
      (c ∉ (rowAt s r).members → applyEdit s e = rejected .rowDrop .notMember r c) ∧
      (c ∈ (rowAt s r).members →
        applyEdit s e = { s with roster := s.roster.set r { rowAt s r with members := (rowAt s r).members.erase c } })) ∧
    (∀ c cfg, e.content = .channelConfig c cfg →
      let t := applyEdit s e
      let old := (chanAt s c).sw
      let sw := (chanAt t c).sw
      t = { s with channels := t.channels } ∧ (∀ d, d ≠ c → chanAt t d = chanAt s d) ∧
      chanAt t c = { chanAt s c with cfg := cfg, sw := sw } ∧
      sw = { old with rampCode := cfg.rampCode, switchOn := sw.switchOn, tripTimer := sw.tripTimer, ocTimer := sw.ocTimer } ∧
      (∀ o, old.switchOn = some o → sw.switchOn = some { o with adapt := o.completed && o.adapt }) ∧
      (old.switchOn = none → sw.switchOn = none) ∧
      (old.state = .ramping ∨ old.state = .on →
        sw.tripTimer = (if tripLevelMA cfg.tripLevel < old.sensed then some (us s.ms) else none) ∧
        sw.ocTimer = (if 800 < old.sensed then some (us s.ms) else none)) ∧
      (old.state = .opened ∨ old.state = .chopOff → sw.tripTimer = old.tripTimer ∧ sw.ocTimer = old.ocTimer)) ∧
    (∀ l, e.content = .layout l → applyEdit s e = { s with layout := l }) ∧
    (∀ g, e.content = .globals g → applyEdit s e = { s with globals := g }) ∧
    (∀ st df, e.content = .classHold st df → applyEdit s e = { s with holdStandard := st, holdDeferrable := df }) ∧
    (∀ fl level, e.content = .floors fl level → applyEdit s e = { s with floor := fl, alarmLevel := level })

/-- One charge (R46, R54): the three amounts sum exactly to the slot energy, only a priority entry draws on the reserve, the
frame remainder goes first, and RESERVE_LOW is entered exactly where the charge takes the reserve below the alarm level.
The tallies do not saturate here (R57 bounds them in one frame). -/
def Obligations.ChargeConservesEnergy : Prop :=
  ∀ (c : Chan) (priority : Bool) (e : Nat) (s : State),
    let t := charge c priority e s
    let a := s.grant.fr - t.grant.fr
    let b := s.reserve - t.reserve
    s.tallies.spent + e ≤ 4294967295 → s.tallies.drawn + e ≤ 4294967295 → s.tallies.overdraw + e ≤ 4294967295 →
    t.grant.fr + min e s.grant.fr = s.grant.fr ∧ t.reserve ≤ s.reserve ∧ a + b ≤ e ∧
    (priority = false → t.reserve = s.reserve) ∧ (priority = true → b = min (e - a) s.reserve) ∧
    t.tallies = { s.tallies with
      spent := s.tallies.spent + a, drawn := s.tallies.drawn + b, overdraw := s.tallies.overdraw + (e - a - b) } ∧
    t = { s with grant := { s.grant with fr := t.grant.fr }, reserve := t.reserve, tallies := t.tallies, energy := t.energy } ∧
    (s.alarmLevel * 1000 ≤ s.reserve ∧ t.reserve < s.alarmLevel * 1000 →
      t.energy = enterRecord 16 { frame := s.frame, slot := s.slotIndex, afterLoss := false, chan := some c,
                                  body := .reserveLow t.reserve s.alarmLevel } s.energy) ∧
    (¬(s.alarmLevel * 1000 ≤ s.reserve ∧ t.reserve < s.alarmLevel * 1000) → t.energy = s.energy)

/-! ## Measurement and the slot -/

/-- The arithmetic of a sample (R44): nothing is lost below a microjoule, the residue stays in 0..99, and the whole part of
one sample is at most 61,380 µJ. -/
def Obligations.SampleArithmeticIsExact : Prop :=
  ∀ (v i : Nat) (m : Meter), v ≤ 6000 → i ≤ 1023 → m.residue < 100 →
    let n := addSample v i m
    n.residue = (v * i + m.residue) % 100 ∧ n.acc = m.acc + (v * i + m.residue) / 100 ∧
    100 * n.acc + n.residue = 100 * m.acc + m.residue + v * i ∧ n.residue < 100 ∧ n.acc ≤ m.acc + 61380 ∧
    n.sub = m.sub ∧ n.totalMJ = m.totalMJ ∧ n.sampling = m.sampling

/-- The law of the cumulative total (R47), over every command but DEVICE_RESET and every channel whose total has not
saturated: the energy its meter holds grows by exactly the product that command sampled, and stays otherwise. -/
def Obligations.EnergyIsNeverLost : Prop :=
  ∀ (i : Instr) (s t : State) (c : Chan), i ≠ .deviceReset → exec i s = .next t → (chanAt t c).meter.totalMJ < 4294967295 →
    heldEnergy (chanAt t c).meter = heldEnergy (chanAt s c).meter + sampledBy i s c

/-- SAMPLE_EVENT (R42 to R44, R70, R79, R80): the bus is read and the millisecond closes; a channel that is not sampling is
not read; a sampling one adds its sample, its inrush peak takes the reading inside the window, its open-load count goes
by the table of R79, and LOST arises where a qualifying low reading takes the count to N. An uplink mark that has closed by
then, but for the 24th, is received (R103, R109). The model's choice: a mark is received at the sample event of the
millisecond it closes in (notes/assumptions/16.md), a LOST that arises is taken by the step after (notes/assumptions/7.md),
and an exchange that ended in the millisecond is known by a mark (notes/assumptions/25.md). -/
def Obligations.SampleEventReadsEveryChannel : Prop :=
  ∀ (bus : Nat) (readings : Vector Reading 24) (s : State), s.inReset = false → sampleReady s = true →
    ∃ t, exec (.sampleEvent bus readings) s = .next t ∧
      t = { s with busSample := min bus 6000, ms := s.ms + 1, slotTime := s.slotTime + 1, channels := t.channels } ∧
      ∀ c : Chan,
        let x := chanAt s c
        let y := chanAt t c
        let i := min readings[c].current 1023
        let qualifies : Prop :=
          (x.life = .fed ∨ x.life = .resuming) ∧ x.sw.closedMs = true ∧
          (∃ o, x.sw.switchOn = some o ∧ o.completion < s.ms + 1) ∧
          (∀ e, x.exchange = some e → s.ms + 1 ≤ e.start) ∧ x.exchangeMs = false
        let limit := if x.life = .resuming then 40 else if x.cfg.openLoadCode = 0 then 40 else 160
        y = { x with meter := y.meter, sw := y.sw, lostDue := y.lostDue, exchange := y.exchange, exchangeMs := false } ∧
        y.sw = { x.sw with sensed := readings[c].current, closedMs := decide (x.sw.state = .ramping ∨ x.sw.state = .on),
                           switchOn := y.sw.switchOn, openLoad := y.sw.openLoad } ∧
        (∀ e a, x.exchange = some e → e.phase = .uplink → e.answerStart = some a → e.marks.length < 23 →
          a + 2000 * (e.marks.length + 1) ≤ us (s.ms + 1) →
          y.exchange = some { e with marks := e.marks ++ [decide (e.baseline + 10 ≤ readings[c].average)] }) ∧
        ((∀ e a, x.exchange = some e → e.phase = .uplink → e.answerStart = some a →
            23 ≤ e.marks.length ∨ us (s.ms + 1) < a + 2000 * (e.marks.length + 1)) →
          y.exchange = x.exchange) ∧
        (x.meter.sampling = false →
          y.meter = x.meter ∧ y.lostDue = x.lostDue ∧ y.sw.switchOn = x.sw.switchOn ∧ y.sw.openLoad = x.sw.openLoad) ∧
        (x.meter.sampling = true →
          y.meter = { x.meter with acc := x.meter.acc + (min bus 6000 * i + x.meter.residue) / 100,
                                   residue := (min bus 6000 * i + x.meter.residue) % 100 } ∧
          y.sw.switchOn = x.sw.switchOn.map (fun o =>
            if o.completed = true ∨ o.completion < s.ms + 1 then o else { o with peak := max o.peak i }) ∧
          (x.life ≠ .fed ∧ x.life ≠ .resuming → y.sw.openLoad = x.sw.openLoad ∧ y.lostDue = x.lostDue) ∧
          (x.life = .fed ∨ x.life = .resuming → 5 ≤ i → y.sw.openLoad = 0 ∧ y.lostDue = x.lostDue) ∧
          (qualifies → i < 5 → y.sw.openLoad = x.sw.openLoad + 1 ∧
            (y.lostDue = true ↔ x.lostDue = true ∨ limit ≤ x.sw.openLoad + 1)) ∧
          (x.life = .fed ∨ x.life = .resuming → i < 5 → ¬ qualifies →
            y.sw.openLoad = x.sw.openLoad ∧ y.lostDue = x.lostDue))

/-- When the steps of the timebase are due (R3, R5, R6): a sample event closes each of the slot's L milliseconds, the slot end
comes once L have closed and a LOST of the last is handed on, then the frame opening after slot S−1, then the slot start;
offered at another time each leaves the state (the model's choice, notes/assumptions/3.md). A step of an instant is timely
while the instant lies no later than the current millisecond and nothing due before it is outstanding, a slot boundary
included (notes/assumptions/5.md), a probe's end being outstanding one millisecond after it (notes/assumptions/6.md) and a
LOST at the sample event that raised it (notes/assumptions/7.md): all three are the model's choice.

SLOT_END (R4, R45 to R47, R58): each entry of the admitted list is closed in its order: charged with its own priority
(`Obligations.ChargeConservesEnergy`), its forecast and its fold. With `u` the state they leave, no channel but the admitted
is touched, only the account moves, and the amounts sum exactly where no tally saturates (R57 bounds them in one frame).
Then sampling stops everywhere, and the last slot of the frame enters the FRAME_SUMMARY and clears the tallies. -/
def Obligations.SlotEndClosesTheSlot : Prop :=
  (∀ s : State,
    (sampleReady s = true ↔ s.phase = .running ∧ s.slotTime < s.layout.len ∧ timely (us (s.ms + 1)) s = true) ∧
    (slotEndReady s = true ↔ s.phase = .running ∧ s.slotTime = s.layout.len ∧ ∀ c, (chanAt s c).lostDue = false) ∧
    (slotStartReady s = true ↔ s.phase = .opened ∨ s.phase = .ended ∧ s.slotIndex + 1 ≠ s.layout.slots) ∧
    (∀ bus readings, sampleReady s = false → exec (.sampleEvent bus readings) s = .next s) ∧
    (slotEndReady s = false → exec .slotEnd s = .next s) ∧
    (¬ (s.phase = .ended ∧ s.slotIndex + 1 = s.layout.slots) → exec .frameOpening s = .next s) ∧
    (slotStartReady s = false → exec .slotStart s = .next s)) ∧
  (∀ (s : State) (t : Nat),
    timely t s = true ↔
      t ≤ us (s.ms + 1) ∧ (s.phase ≠ .running ∨ s.layout.len ≤ s.slotTime → t ≤ us s.ms) ∧
      (∀ p, s.probe = some p → t ≤ us (p.stop + 1)) ∧
      ∀ c : Chan,
        let x := chanAt s c
        (∀ o, x.sw.switchOn = some o →
          (x.sw.state = .ramping → t ≤ us o.rampEnd) ∧ (o.completed = false → t ≤ us o.completion) ∧
          t ≤ us (o.chopStart + o.chopLength)) ∧
        (∀ since, x.sw.tripTimer = some since → t ≤ since + tripDeglitchUs x.cfg.tripDeglitch) ∧
        (∀ since, x.sw.ocTimer = some since → t ≤ since + ocDeglitchUs x.cfg.ocDeglitch) ∧
        (∀ start, x.placement = some start → t ≤ us start) ∧
        (∀ e, x.exchange = some e →
          (e.phase = .downlink → t ≤ us (e.start + 32)) ∧ (e.phase = .window → t ≤ us (e.start + 52)) ∧
          (e.phase = .uplink → t ≤ e.answerStart.getD (us e.start) + 48000)) ∧
        (x.lostDue = true → t ≤ us s.ms)) ∧
  (∀ e : Exchange, exchangeDeadline e = match e.phase with
    | .downlink => us (e.start + 32)
    | .window => us (e.start + 52)
    | .uplink => e.answerStart.getD (us e.start) + 48000) ∧
  (∀ (v : State) (e : Entry),
    let x := chanAt v e.chan
    closeEntry v e = setChan e.chan { x with
      forecast := if x.entered then x.forecast else x.meter.acc
      meter := { x.meter with
        acc := 0
        sub := (x.meter.sub + x.meter.acc) % 1000
        totalMJ := min 4294967295 (x.meter.totalMJ + (x.meter.sub + x.meter.acc) / 1000) } }
      (charge e.chan e.priority x.meter.acc v)) ∧
  (∀ s : State, s.inReset = false → slotEndReady s = true →
    let u := s.admitted.foldl closeEntry s
    ∃ t, exec .slotEnd s = .next t ∧
      (∀ c : Chan, chanAt t c = { chanAt u c with meter := { (chanAt u c).meter with sampling := false } }) ∧
      (s.slotIndex + 1 ≠ s.layout.slots → t = { u with phase := .ended, channels := t.channels }) ∧
      (s.slotIndex + 1 = s.layout.slots →
        t = { u with
          phase := .ended
          channels := t.channels
          tallies := { spent := 0, drawn := 0, overdraw := 0, admitted := 0, shed := 0, busLow := 0 }
          energy := enterRecord 16 { frame := s.frame, slot := s.slotIndex, afterLoss := false, chan := none,
                                     body := .frameSummary s.grant.latched u.tallies u.reserve } u.energy }) ∧
      u = { s with grant := { s.grant with fr := u.grant.fr }, reserve := u.reserve, channels := u.channels, energy := u.energy,
                   tallies := { s.tallies with spent := u.tallies.spent, drawn := u.tallies.drawn, overdraw := u.tallies.overdraw } } ∧
      (∀ c : Chan, isAdmitted s c = false → chanAt u c = chanAt s c) ∧
      ((s.admitted.map Entry.chan).Nodup →
        let energies := (s.admitted.map fun e => (chanAt s e.chan).meter.acc).sum
        (∀ c : Chan, isAdmitted s c = true →
          let x := chanAt s c
          chanAt u c = { x with
            forecast := if x.entered then x.forecast else x.meter.acc
            meter := { x.meter with
              acc := 0
              sub := (x.meter.sub + x.meter.acc) % 1000
              totalMJ := min 4294967295 (x.meter.totalMJ + (x.meter.sub + x.meter.acc) / 1000) } }) ∧
        (s.tallies.spent + energies ≤ 4294967295 → s.tallies.drawn + energies ≤ 4294967295 →
          s.tallies.overdraw + energies ≤ 4294967295 →
          u.tallies.spent + u.grant.fr = s.tallies.spent + s.grant.fr ∧
          u.tallies.drawn + u.reserve = s.tallies.drawn + s.reserve ∧
          u.tallies.spent + u.tallies.drawn + u.tallies.overdraw =
            s.tallies.spent + s.tallies.drawn + s.tallies.overdraw + energies)))

/-- FRAME_OPENING (R6, R8, R50, R139, R140, R149, R176): with `a` the state the edits leave, applied oldest first after the
frame number, slot index and rotor have moved, the edit queue is empty, the grant is latched by the table of R50, every
running test counts one frame and resumes at 0, FRAME is latched at both ports, and nothing else changes. -/
def Obligations.FrameOpeningDoesItsParts : Prop :=
  ∀ s : State, s.inReset = false → s.phase = .ended → s.slotIndex + 1 = s.layout.slots →
    let a := s.edits.foldl applyEdit
      { s with frame := (s.frame + 1) % 65536, slotIndex := 0, slotTime := 0, rotor := (s.rotor + 1) % 24 }
    let expires := a.grant.unlimited = false ∧ a.grant.life = 0 ∧ a.grant.expiryReported = false
    ∃ t, exec .frameOpening s = .next t ∧
      t = { a with edits := [], phase := .opened, grant := t.grant, channels := t.channels,
                   service := { a.service with frameCause := true }, energy := t.energy } ∧
      (a.grant.unlimited = true →
        t.grant = { a.grant with latched := a.grant.pending, fr := a.grant.pending * 1000 }) ∧
      (a.grant.unlimited = false → 0 < a.grant.life →
        t.grant = { a.grant with latched := a.grant.pending, fr := a.grant.pending * 1000, life := a.grant.life - 1 }) ∧
      (a.grant.unlimited = false → a.grant.life = 0 →
        t.grant = { a.grant with latched := 0, fr := 0, expiryReported := true }) ∧
      (expires → t.energy = { enterRecord 16 { frame := (s.frame + 1) % 65536, slot := 0, afterLoss := false, chan := none,
                                               body := .grantExpired a.grant.pending } a.energy with frameCause := true }) ∧
      (¬ expires → t.energy = { a.energy with frameCause := true }) ∧
      ∀ c : Chan,
        let x := chanAt a c
        let y := chanAt t c
        (∀ k, x.test = some k → k.phase = .running → 1 < k.remaining →
          y = { x with test := some { k with remaining := k.remaining - 1 } }) ∧
        (∀ k, x.test = some k → k.phase = .running → k.remaining ≤ 1 →
          y = { x with life := .resuming, forecast := x.cfg.defaultForecast * 1000, seq := false, entered := true,
                       sw := { x.sw with openLoad := 0 },
                       test := some { k with phase := .resuming, remaining := 0, aborted := false } }) ∧
        ((∀ k, x.test = some k → k.phase ≠ .running) → y = x)

/-- SLOT_START (R5, R19, R20, R27, R34, R35, R43, R67, R104). `u` is the state in which members are admitted: the slot
moved on and the bus compared, with BUS_LOW or BUS_OK on a change and the bus-low tally. `w` is the state after admission:
the list replaced, the tallies and shed counts up, every switch acting by the table of switch continuity, the admitted
channels sampling, the exchanges placed. A set waiting mark then makes a look. A switch-on arms the detectors with their
timers clear; one whose level the sensed current already stands above runs from then on (R67, R73, R77). That a channel is on
at the slot end while it has a switch-on in progress, so that one opened for good after the slot end is switched on afresh, is
the model's choice (notes/assumptions/15.md). The ramp times and chop periods are those of the tables of R67 and R74. That an
opening takes the sensed current to 0 and that arming runs the timers from it is the model's choice
(notes/assumptions/14.md). -/
def Obligations.SlotStartActs : Prop :=
  [0, 1, 2, 3, 4, 5, 6, 7].map rampTime = [1, 2, 4, 6, 8, 12, 16, 24] ∧ [0, 1, 2, 3].map chopPeriod = [5, 10, 20, 40] ∧
  ∀ s : State, s.inReset = false → slotStartReady s = true →
    let low : Bool := decide (s.floor ≠ 0 ∧ s.busSample < s.floor)
    let index := if s.phase = .ended then s.slotIndex + 1 else s.slotIndex
    let record : ReportBody → PortState := fun b =>
      enterRecord 16 { frame := s.frame, slot := index, afterLoss := false, chan := none, body := b } s.energy
    let u := { s with
      slotIndex := index, slotTime := 0, phase := .running, busLow := low
      energy := if low = s.busLow then s.energy
        else if low then record (.busLow s.busSample s.floor) else record (.busOk s.busSample s.floor)
      tallies := { s.tallies with busLow := min 4294967295 (s.tallies.busLow + if low then 1 else 0) } }
    let row := rowAt u (Fin.ofNat 32 (s.layout.origin + index))
    let b := admission u row
    row.members.Nodup →
    ∃ w, exec .slotStart s = .next (if s.waiting then look w else w) ∧
      w = { u with
        admitted := b.entries
        channels := w.channels
        tallies := { u.tallies with admitted := min 4294967295 (u.tallies.admitted + b.entries.length),
                                    shed := min 4294967295 (u.tallies.shed + b.shed.length) } } ∧
      ∀ c : Chan,
        let x := chanAt s c
        let y := chanAt w c
        let inList : Prop := ∃ e ∈ b.entries, e.chan = c
        y = { x with entered := false, placement := y.placement, sw := y.sw, meter := y.meter, shed := y.shed } ∧
        y.shed = (if c ∈ b.shed then min 65535 (x.shed + 1) else x.shed) ∧
        (inList → y.meter = { x.meter with sampling := true }) ∧ (¬ inList → y.meter = { x.meter with sampling := false }) ∧
        (inList → x.sw.switchOn ≠ none → y.sw = x.sw) ∧
        (inList → x.sw.switchOn = none →
          y.sw = { x.sw with
            state := .ramping
            switchOn := some
              { rampEnd := s.ms + rampTime x.sw.rampCode, completion := s.ms + rampTime x.sw.rampCode + 5, completed := false,
                peak := 0, adapt := x.cfg.adaptation, chopStart := s.ms, chopLength := chopPeriod s.globals.chopCode,
                tripSeen := false }
            tripCount := 0, openLoad := 0, closedMs := true
            tripTimer := if tripLevelMA x.cfg.tripLevel < x.sw.sensed then some (us s.ms) else none
            ocTimer := if 800 < x.sw.sensed then some (us s.ms) else none }) ∧
        (¬ inList → OpenedFrom s.globals s.ms x.sw y.sw) ∧
        (¬ inList ∨ row.exchange = false → y.placement = none) ∧
        (inList → row.exchange = true →
          let base := match y.sw.switchOn with
            | some o => max s.ms o.rampEnd
            | none => s.ms
          let start := base + (if x.life = .waking then 50 else 10)
          y.placement = if start + 100 ≤ s.ms + s.layout.len then some start else none)

/-! ## Admission -/

/-- Who is tested at a slot start and in what order (R27, R29 to R32, R8): nobody with the feed OFF or in a null slot; else
exactly the eligible members, by group (priority, STANDARD, DEFERRABLE) and inside a group by (channel − rotor) mod 24. -/
def Obligations.AdmissionOrder : Prop :=
  ∀ (s : State) (row : Row), s.rotor < 24 →
    let priority : Chan → Prop := fun c =>
      (chanAt s c).cfg.cls = .emergency ∨ ∃ r, (chanAt s c).status = some r ∧ r.stale = false ∧ r.inUse = true
    let rank : Chan → Int := fun c => ((c.val : Int) - (s.rotor : Int)) % 24
    (s.feedOn = false ∨ row.feed = false ∨ row.members = [] →
      (admission s row).entries = [] ∧ (admission s row).shed = []) ∧
    (s.feedOn = true → row.feed = true → admission s row = budgetTest s row) ∧
    (∀ c : Chan, c ∈ sortedMembers s row ↔
      c ∈ row.members ∧
        ((chanAt s c).life = .waking ∨ (chanAt s c).life = .fed ∨ (chanAt s c).life = .resuming) ∧
        (∀ p, s.probe = some p → p.partner ≠ some c) ∧
        ((chanAt s c).life = .waking → row.exchange = true ∧ 160 ≤ s.layout.len)) ∧
    (row.members.Nodup → (sortedMembers s row).Nodup) ∧
    (sortedMembers s row).Pairwise fun c d =>
      (priority c ∧ ¬ priority d) ∨
      (¬ priority c ∧ ¬ priority d ∧ (chanAt s c).cfg.cls ≠ .deferrable ∧ (chanAt s d).cfg.cls = .deferrable) ∨
      ((priority c ↔ priority d) ∧ (priority c ∨ ((chanAt s c).cfg.cls = .deferrable ↔ (chanAt s d).cfg.cls = .deferrable)) ∧
        rank c ≤ rank d)

/-- The budget test is first-fit (R33). A member `c` met after the members `before` is admitted exactly when it is a priority
member, or its class is not held, the bus is not low and its forecast is 0 or fits what the forecasts already committed leave
of the frame remainder; else it is shed (R39: a channel of forecast 0 fits any budget test it meets). The list keeps the order of admission, each entry with its priority flag. -/
def Obligations.BudgetTestIsFirstFit : Prop :=
  ∀ (s : State) (row : Row), row.members.Nodup →
    let b := budgetTest s row
    let inList : Chan → Prop := fun c => ∃ e ∈ b.entries, e.chan = c
    (b.entries.map Entry.chan).Sublist (sortedMembers s row) ∧ b.shed.Sublist (sortedMembers s row) ∧
    (∀ c ∈ sortedMembers s row, (inList c ∧ c ∉ b.shed) ∨ (¬ inList c ∧ c ∈ b.shed)) ∧
    (∀ e ∈ b.entries, e.priority = isPriority (chanAt s e.chan)) ∧
    (∀ (before : List Chan) (c : Chan) (after : List Chan), sortedMembers s row = before ++ c :: after →
      let committed := ((before.filter fun d => b.entries.any fun e => e.chan = d).map fun d => (chanAt s d).forecast).sum
      let ch := chanAt s c
      inList c ↔
        (isPriority ch = true ∨
          (¬ (ch.cfg.cls = .standard ∧ s.holdStandard = true) ∧ ¬ (ch.cfg.cls = .deferrable ∧ s.holdDeferrable = true) ∧
            s.busLow = false ∧ (ch.forecast = 0 ∨ committed + ch.forecast ≤ s.grant.fr))))

/-- The law of priority admission (R33): while the feed is ON, a priority member in a powered state is admitted at the slot
start of a FEED row that lists it, unless a PAIR probe holds it or it is WAKING where no exchange is allowed. -/
def Obligations.PriorityMemberIsAdmitted : Prop :=
  ∀ (s : State) (c : Chan), s.inReset = false → slotStartReady s = true → s.feedOn = true →
    let row := rowAt s (Fin.ofNat 32 (s.layout.origin + if s.phase = .ended then s.slotIndex + 1 else s.slotIndex))
    let ch := chanAt s c
    row.feed = true → c ∈ row.members → (ch.life = .waking ∨ ch.life = .fed ∨ ch.life = .resuming) →
    (ch.cfg.cls = .emergency ∨ ∃ r, ch.status = some r ∧ r.stale = false ∧ r.inUse = true) →
    (∀ p, s.probe = some p → p.partner ≠ some c) → (ch.life = .waking → row.exchange = true ∧ 160 ≤ s.layout.len) →
    ∃ t, exec .slotStart s = .next t ∧ { chan := c, priority := true } ∈ t.admitted

/-! ## Feed switches -/

/-- The steps a switch takes by its own timing. SWITCH_ON_COMPLETE (R70, R71): the last inrush peak, and the ramp code
adapted where the adapt flag is set. RAMP_END (R67): RAMPING becomes ON; a switch in CHOP_OFF stays there.
CHOP_PERIOD_START (R74): the trip count, trip seen and the new period by the global setting, and reclosure from CHOP_OFF,
which arms the detectors with their timers clear; one whose level the sensed current already stands above runs from that
instant on (R73, R77). The model's choice: SWITCH_ON_COMPLETE is a step after its sample event (notes/assumptions/7.md), and
the sensed current at a reclosure is the one last told (notes/assumptions/14.md). -/
def Obligations.SwitchTimingSteps : Prop :=
  ∀ (c : Chan) (s : State) (o : SwitchOn), s.inReset = false → (chanAt s c).sw.switchOn = some o →
    let x := chanAt s c
    let code := x.sw.rampCode
    (o.completed = false → o.completion ≤ s.ms → timely (us o.completion) s = true →
      exec (.switchOnComplete c) s = .next (setChan c { x with sw := { x.sw with
        lastPeak := o.peak
        rampCode :=
          if o.adapt = false then code
          else if s.globals.target < o.peak then min 7 (code + s.globals.gain)
          else if o.peak < s.globals.target / 2 then max 0 (code - 1)
          else code
        switchOn := some { o with completed := true } } } s)) ∧
    (x.sw.state = .ramping → timely (us o.rampEnd) s = true →
      exec (.rampEnd c) s = .next (setChan c { x with sw := { x.sw with state := .on } } s)) ∧
    (x.sw.state = .chopOff → exec (.rampEnd c) s = .next s) ∧
    (timely (us (o.chopStart + o.chopLength)) s = true →
      let period := match s.globals.chopCode with
        | 0 => 5
        | 1 => 10
        | 2 => 20
        | 3 => 40
      let sw := { x.sw with
        tripCount := if o.tripSeen then x.sw.tripCount else 0
        switchOn := some { o with tripSeen := false, chopStart := o.chopStart + o.chopLength, chopLength := period } }
      (x.sw.state ≠ .chopOff → exec (.chopPeriodStart c) s = .next (setChan c { x with sw := sw } s)) ∧
      (x.sw.state = .chopOff →
        exec (.chopPeriodStart c) s = .next (setChan c { x with sw := { sw with
          state := .on
          tripTimer := if tripLevelMA x.cfg.tripLevel < x.sw.sensed then some (us (o.chopStart + o.chopLength)) else none
          ocTimer := if 800 < x.sw.sensed then some (us (o.chopStart + o.chopLength)) else none
          closedMs := x.sw.closedMs || decide (o.chopStart + o.chopLength ≤ s.ms) } } s)))

/-- The detectors. DETECTOR_LEVEL_CROSSING (R73, R77): each armed detector's timer starts, runs on or clears by its level.
TRIP_ASSERT (R75, R76): CHOP_OFF with both detectors disarmed and the count up by 1; the eighth in a row faults the
channel with LIMIT. That a trip takes the sensed current to 0, but for one at the next chop period start, which has no
chop-off time (R76), is the model's choice (notes/assumptions/14.md). OVERCURRENT_ASSERT (R77): the channel is faulted with OVERCURRENT. OPEN_LOAD_LOST (R80, R93): DARK with
OPEN_LOAD, with a LOST record from FED and TEST_RESULT LOST in its place from RESUMING. That the trip count stays at 8
(notes/assumptions/27.md) and that OPEN_LOAD_LOST is a step after its sample event (notes/assumptions/7.md) is the model's
reading. -/
def Obligations.DetectorsAct : Prop :=
  ∀ (c : Chan) (s : State), s.inReset = false →
    let x := chanAt s c
    let closed : Prop := x.sw.state = .ramping ∨ x.sw.state = .on
    let tripUs := match x.cfg.tripDeglitch with
      | 0 => 500
      | 1 => 1000
      | 2 => 2000
      | 3 => 4000
    let ocUs := match x.cfg.ocDeglitch with
      | 0 => 50
      | 1 => 100
      | 2 => 200
      | 3 => 400
    let level := match x.cfg.tripLevel with
      | 0 => 150
      | 1 => 250
      | 2 => 350
      | 3 => 500
    (∀ (current : Nat) (instant : Fin 1001), timely (us s.ms + instant.val) s = true →
      let now := us s.ms + instant.val
      (closed → exec (.detectorLevelCrossing c current instant) s = .next (setChan c { x with sw := { x.sw with
        sensed := current
        tripTimer := if level < current then some (x.sw.tripTimer.getD now) else none
        ocTimer := if 800 < current then some (x.sw.ocTimer.getD now) else none } } s)) ∧
      (¬ closed → exec (.detectorLevelCrossing c current instant) s =
        .next (setChan c { x with sw := { x.sw with sensed := current } } s))) ∧
    (∀ (o : SwitchOn) (since : Nat), x.sw.switchOn = some o → x.sw.tripTimer = some since → closed →
      timely (since + tripUs) s = true →
      let count := min 8 (x.sw.tripCount + 1)
      let u := setChan c { x with sw := { x.sw with
        state := .chopOff, tripTimer := none, ocTimer := none, closedMs := false, tripCount := count
        sensed := if since + tripUs < us (o.chopStart + o.chopLength) then 0 else x.sw.sensed
        switchOn := some { o with tripSeen := true } } } s
      (count < 8 → exec (.tripAssert c) s = .next u) ∧
      (count = 8 → powered x.life = true → exec (.tripAssert c) s = .next (enterFaulted c .limit none u))) ∧
    (∀ since : Nat, x.sw.ocTimer = some since → closed → timely (since + ocUs) s = true → powered x.life = true →
      exec (.overcurrentAssert c) s = .next (enterFaulted c .overcurrent none s)) ∧
    (x.lostDue = true → x.life = .fed →
      exec (.openLoadLost c) s =
        .next (enterDark c .openLoad (some (.lost .openLoad (x.status.map StatusRecord.lastAnswer))) .lost s)) ∧
    (x.lostDue = true → x.life = .resuming → exec (.openLoadLost c) s = .next (enterDark c .openLoad none .lost s))

/-! ## The feed-line exchange -/

/-- EXCHANGE_START (R106, R107): the command by the channel's state and mailbox, the sequence bit, the sixteen marks, and the
placement consumed. DOWNLINK_END (R107, R108): the window opens with its baseline. ANSWER_START (R108): a current that
rises to B + 10 mA inside the window and stands there for half a millisecond of it begins the uplink at its rise; one that
stood there before, having risen during the downlink, is not taken (its operand: notes/assumptions/29.md). Between them the
FEED output of a channel no probe is on: each of the sixteen marks, 2 ms long, is a dip for 1 and full output for 0, and a
switch that is OPEN or in CHOP_OFF has no output and no mark (R66, R107); outside a downlink there is no dip. -/
def Obligations.ExchangeProceeds : Prop :=
  ∀ (c : Chan) (s : State), s.inReset = false →
    let x := chanAt s c
    (∀ (start : Nat) (cmd : DownCmd) (arg : Nat), x.placement = some start → timely (us start) s = true →
      (x.life = .waking ∧ cmd = .wake ∧ arg = 0 ∨ x.life = .resuming ∧ cmd = .resultQuery ∧ arg = 0 ∨
        x.life = .fed ∧ x.mailbox = some { cmd := cmd, arg := arg } ∨
        x.life = .fed ∧ x.mailbox = none ∧ cmd = .keep ∧ arg = 0) →
      exec (.exchangeStart c) s = .next (setChan c { x with
        placement := none
        exchange := some { cmd := cmd, arg := arg, seq := x.seq, phase := .downlink, start := start,
                           downlink := downlinkMarks cmd arg x.seq, baseline := 0, answerStart := none, marks := [] } } s)) ∧
    (∀ (e : Exchange) (baseline : Nat), x.exchange = some e → e.phase = .downlink → timely (us (e.start + 32)) s = true →
      exec (.downlinkEnd c baseline) s =
        .next (setChan c { x with exchange := some { e with phase := .window, baseline := baseline } } s)) ∧
    (∀ (e : Exchange) (rise : Rise) (instant : Fin 1001), x.exchange = some e → e.phase = .window →
      let now := us s.ms + instant.val
      (timely now s = true → us (e.start + 32) + 500 ≤ now → now ≤ us (e.start + 52) → rise.before < e.baseline + 10 →
        e.baseline + 10 ≤ rise.held →
        exec (.answerStart c instant rise) s =
          .next (setChan c { x with exchange := some { e with phase := .uplink, answerStart := some (now - 500) } } s)) ∧
      (e.baseline + 10 ≤ rise.before ∨ rise.held < e.baseline + 10 ∨ now < us (e.start + 32) + 500 →
        exec (.answerStart c instant rise) s = .next s)) ∧
    let unprobed : Prop := ∀ p, s.probe = some p → p.chan ≠ c ∧ p.partner ≠ some c
    (∀ (e : Exchange) (k t : Nat) (dip : Bool), unprobed → x.exchange = some e → e.phase = .downlink → e.downlink[k]? = some dip →
      us e.start + 2000 * k ≤ t → t < us e.start + 2000 * (k + 1) →
      (x.sw.state = .opened ∨ x.sw.state = .chopOff → feedOutput t s c = .off) ∧
      (x.sw.state = .ramping ∨ x.sw.state = .on → (feedOutput t s c = .dip ↔ dip = true)) ∧
      (x.sw.state = .on → dip = false → feedOutput t s c = .full)) ∧
    (∀ t : Nat, unprobed → (∀ e, x.exchange = some e → e.phase ≠ .downlink) →
      feedOutput t s c = match x.sw.state with
        | .opened | .chopOff => .off
        | .ramping => .rising
        | .on => .full)

/-- WINDOW_EXPIRY (R91, R92, R108, R113): the exchange ends NO_ANSWER. In WAKING it counts an attempt, and at the limit the
wake fails; in FED and RESUMING it counts a miss, and at the third the channel is silent, with LOST from FED and
TEST_RESULT NO_ANSWER in its place from RESUMING. The mailbox and the sequence bit stay. That the exchange's end is marked
for the open-load count is the model's own (notes/assumptions/25.md). -/
def Obligations.WindowExpiryCountsMiss : Prop :=
  ∀ (c : Chan) (s : State) (e : Exchange), s.inReset = false → (chanAt s c).exchange = some e → e.phase = .window →
    timely (us (e.start + 52)) s = true →
    let x := chanAt s c
    let x' := { x with exchange := none, exchangeMs := x.exchangeMs || decide (us s.ms < us (e.start + 52)) }
    let attempt := setChan c { x' with attempts := x.attempts + 1 } s
    let miss := setChan c { x' with misses := x.misses + 1 } s
    (x.life = .waking → x.attempts + 1 < x.cfg.wakeLimit → exec (.windowExpiry c) s = .next attempt) ∧
    (x.life = .waking → x.cfg.wakeLimit ≤ x.attempts + 1 →
      exec (.windowExpiry c) s =
        .next (enterDark c .wakeFailed (some (.wakeResult false (x.attempts + 1) 0)) .noAnswer attempt)) ∧
    (x.life = .fed ∨ x.life = .resuming → x.misses + 1 < 3 → exec (.windowExpiry c) s = .next miss) ∧
    (x.life = .fed → 3 ≤ x.misses + 1 →
      exec (.windowExpiry c) s =
        .next (enterDark c .silent (some (.lost .silent (x.status.map StatusRecord.lastAnswer))) .noAnswer miss)) ∧
    (x.life = .resuming → 3 ≤ x.misses + 1 →
      exec (.windowExpiry c) s = .next (enterDark c .silent none .noAnswer miss))

/-- How 24 marks are classified (R109, R113): the four tests of CORRUPT, then the kind the command expects. -/
def Obligations.UplinkIsClassified : Prop :=
  ∀ (cmd : DownCmd) (seq : Bool) (ms : List Bool), ms.length = 24 →
    let checked := (ms.drop 2).take 18
    let kind := valueOf (checked.take 3)
    let corrupt : Prop :=
      ms.take 2 ≠ [true, true] ∨ ms.drop 20 ≠ marksOf 4 (checkOf checked).toNat ∨ checked.getLast? ≠ some seq ∨
      kind = 0 ∨ kind = 6 ∨ kind = 7
    let expected : Bool :=
      match cmd with
      | .wake => kind == 1
      | .keep | .query => kind == 2
      | .beginTest | .doze | .aux _ => kind == 3 || kind == 4
      | .resultQuery => kind == 5
    (corrupt → classify cmd seq ms = (.corrupt, none)) ∧
    (¬ corrupt →
      ∃ a : Answer, classify cmd seq ms = (if expected then .valid else .unexpected, some a) ∧
        a.kind = (match kind with
          | 1 => .hello
          | 2 => .status
          | 3 => .ack
          | 4 => .nak
          | _ => .result) ∧
        a.band = valueOf ((ms.drop 5).take 4) ∧ ms[9]? = some a.inUse ∧ ms[10]? = some a.charging ∧
        a.alarm = valueOf ((ms.drop 11).take 3) ∧ a.payload = valueOf ((ms.drop 14).take 5))

/-- UPLINK_END without a usable answer (R113, R115 to R117): a CORRUPT outcome counts as the window's expiry does and leaves
the status record; an UNEXPECTED one counts the same, but first refreshes the record, and its STATUS_CHANGE, where one is
due, follows the records of the miss. The sequence bit and the mailbox stay while the channel stays. The marks are those
received before and the last, which closes here (`Obligations.ExchangesKeepInsideSlot` says how many were received). That the
last mark's average comes with the uplink end (notes/assumptions/16.md) and that the end is marked for the open-load count
(notes/assumptions/25.md) is the model's own. -/
def Obligations.UplinkMissCounts : Prop :=
  ∀ (c : Chan) (average : Nat) (s : State) (e : Exchange), s.inReset = false → (chanAt s c).exchange = some e →
    e.phase = .uplink → timely (exchangeDeadline e) s = true →
    let x := chanAt s c
    let marks := e.marks ++ [decide (e.baseline + 10 ≤ average)]
    let ended := { x with exchange := none, exchangeMs := x.exchangeMs || decide (us s.ms < exchangeDeadline e) }
    let missed : Channel → State := fun y =>
      match x.life with
      | .waking =>
        let u := setChan c { y with attempts := x.attempts + 1 } s
        if x.cfg.wakeLimit ≤ x.attempts + 1 then
          enterDark c .wakeFailed (some (.wakeResult false (x.attempts + 1) 0)) .noAnswer u
        else u
      | .fed =>
        let u := setChan c { y with misses := x.misses + 1 } s
        if 3 ≤ x.misses + 1 then
          enterDark c .silent (some (.lost .silent (y.status.map StatusRecord.lastAnswer))) .noAnswer u
        else u
      | .resuming =>
        let u := setChan c { y with misses := x.misses + 1 } s
        if 3 ≤ x.misses + 1 then enterDark c .silent none .noAnswer u else u
      | .dark | .testing | .faulted | .retired => setChan c y s
    (classify e.cmd e.seq marks = (.corrupt, none) → exec (.uplinkEnd c average) s = .next (missed ended)) ∧
    (∀ a : Answer, classify e.cmd e.seq marks = (.unexpected, some a) →
      let fields := answerFields a x.status
      let t := missed { ended with status := some (answerRecord s.frame a x.status) }
      (changeIsDue a x.status →
        exec (.uplinkEnd c average) s = .next (reportChan c (.statusChange fields (priorValues x.status)) t)) ∧
      (¬ changeIsDue a x.status → exec (.uplinkEnd c average) s = .next t))

/-- UPLINK_END with a VALID answer of a channel that stays FED (R112, R115 to R120, R137): the status record is refreshed,
the sequence bit inverted, the miss count 0; the mailbox command sent is settled with its MAILBOX_DONE, a refused test
with TEST_RESULT REFUSED; a STATUS_CHANGE follows where one is due. No other channel and nothing else changes. The
TEST_RESULT is spelled out in `Obligations.UnpoweredEntries`. That the last mark's average comes with the uplink end
(notes/assumptions/16.md) and that the end is marked for the open-load count (notes/assumptions/25.md) is the model's own. -/
def Obligations.ValidAnswerInFed : Prop :=
  ∀ (c : Chan) (average : Nat) (s : State) (e : Exchange) (a : Answer), s.inReset = false →
    (chanAt s c).exchange = some e → e.phase = .uplink → timely (exchangeDeadline e) s = true → (chanAt s c).life = .fed →
    classify e.cmd e.seq (e.marks ++ [decide (e.baseline + 10 ≤ average)]) = (.valid, some a) →
    ¬ ((e.cmd = .doze ∨ e.cmd = .beginTest) ∧ a.kind = .ack) →
    let x := chanAt s c
    let m : Mailbox := { cmd := e.cmd, arg := e.arg }
    let ackOrNak : MailOutcome := if a.kind = .ack then .acked else .naked
    let own : List ReportBody :=
      match e.cmd with
      | .wake | .keep | .resultQuery => []
      | .query => [.mailboxDone MailOutcome.answered m 0 (some { answerFields a x.status with hours := some a.payload })]
      | .doze | .aux _ => [.mailboxDone ackOrNak m a.payload none]
      | .beginTest =>
        match x.test with
        | some k => [testEnding .refused k a.payload]
        | none => []
    let emptied : Bool :=
      match e.cmd with
      | .wake | .keep | .resultQuery => false
      | .query | .doze | .aux _ | .beginTest => true
    let change : List ReportBody :=
      if changeIsDue a x.status then [.statusChange (answerFields a x.status) (priorValues x.status)] else []
    exec (.uplinkEnd c average) s = .next
      { setChan c { x with
          exchange := none
          exchangeMs := x.exchangeMs || decide (us s.ms < exchangeDeadline e)
          status := some (answerRecord s.frame a x.status)
          seq := !x.seq
          misses := 0
          mailbox := if emptied then none else x.mailbox
          test := if e.cmd = .beginTest then none else x.test } s with
        service := withRecords s.frame s.slotIndex c (own ++ change) s.service }

/-- UPLINK_END with a VALID answer that moves the channel (R91, R92, R94, R112, R115, R119, R136, R142): HELLO to FED with
WAKE_RESULT AWAKE; RESULT to FED with TEST_RESULT COMPLETE; the ACK to BEGIN_TEST to TESTING, the switch opened and the
sampling stopped; the ACK to DOZE to DARK with MAILBOX_DONE ACKED. The STATUS_CHANGE due comes last. That the opening takes
the sensed current to 0 (notes/assumptions/14.md), that the last mark's average comes with the uplink end
(notes/assumptions/16.md) and that the end is marked for the open-load count (notes/assumptions/25.md) is the model's choice. -/
def Obligations.ValidAnswerMovesChannel : Prop :=
  ∀ (c : Chan) (average : Nat) (s : State) (e : Exchange) (a : Answer), s.inReset = false →
    (chanAt s c).exchange = some e → e.phase = .uplink → timely (exchangeDeadline e) s = true →
    classify e.cmd e.seq (e.marks ++ [decide (e.baseline + 10 ≤ average)]) = (.valid, some a) →
    let x := chanAt s c
    let y := { x with
      exchange := none
      exchangeMs := x.exchangeMs || decide (us s.ms < exchangeDeadline e)
      status := some (answerRecord s.frame a x.status)
      seq := !x.seq }
    let change : List ReportBody :=
      if changeIsDue a x.status then [.statusChange (answerFields a x.status) (priorValues x.status)] else []
    (x.life = .waking →
      exec (.uplinkEnd c average) s = .next
        { setChan c { y with life := .fed, misses := 0, sw := { x.sw with openLoad := 0 } } s with
          service := withRecords s.frame s.slotIndex c (.wakeResult true x.attempts a.payload :: change) s.service }) ∧
    (∀ k, x.life = .resuming → x.test = some k →
      exec (.uplinkEnd c average) s = .next
        { setChan c { y with life := .fed, misses := 0, sw := { x.sw with openLoad := 0 }, test := none } s with
          service := withRecords s.frame s.slotIndex c
            (.testResult .complete k.phase k.duration (k.duration - k.remaining) k.bandBefore (some a.band) (some a.payload)
              k.aborted 0 :: change) s.service }) ∧
    (∀ k, x.life = .fed → e.cmd = .beginTest → a.kind = .ack → x.test = some k →
      ∃ z, exec (.uplinkEnd c average) s = .next
          { setChan c z s with service := withRecords s.frame s.slotIndex c change s.service } ∧
        DepartedFrom s.globals s.ms x z ∧
        z = { y with life := .testing, misses := 0, mailbox := none, lostDue := false, placement := none, sw := z.sw,
                     meter := z.meter,
                     test := some { k with phase := .running, remaining := k.duration, bandBefore := some a.band } }) ∧
    (x.life = .fed → e.cmd = .doze → a.kind = .ack →
      let u := enterDark c .dozed (some (.mailboxDone .acked { cmd := .doze, arg := e.arg } a.payload none)) .noAnswer
        (setChan c { y with misses := 0, mailbox := none } s)
      exec (.uplinkEnd c average) s = .next
        { u with service := withRecords s.frame s.slotIndex c change u.service })

/-! ## Probing -/

/-- PROBE_END_LINE and PROBE_END_PAIR (R125 to R127): the probe is over, its PROBE_RESULT is entered, the outcome acts on the
channel, which is DARK, and for CROSSED on its partner by its state, and the engine looks again. That an end is taken up to a
millisecond early by s.ms (notes/assumptions/6.md) and that an automatic wake leaves the open-load count
(notes/assumptions/28.md) is the model's choice. -/
def Obligations.ProbeEndsAct : Prop :=
  ∀ (s : State) (p : Probe), s.inReset = false → s.probe = some p → timely (us p.stop) s = true → (chanAt s p.chan).life = .dark →
    let c := p.chan
    let x := chanAt s c
    (∀ reading : Nat, p.partner = none →
      let v := min reading 1200
      let u : ProbeOutcome → State := fun o =>
        { s with probe := none, service := withRecords s.frame s.slotIndex c [.probeResult false none o (some v)] s.service }
      (v ≤ 49 →
        exec (.probeEndLine reading) s =
          .next (look (enterFaulted c .short none (setChan c { x with line := .short } (u .short))))) ∧
      (350 ≤ v → v ≤ 650 → x.cfg.autoWake = false →
        exec (.probeEndLine reading) s = .next (look (setChan c { x with line := .signature } (u .signature)))) ∧
      (350 ≤ v → v ≤ 650 → x.cfg.autoWake = true →
        exec (.probeEndLine reading) s = .next (look (setChan c
          { x with line := .signature, life := .waking, attempts := 0, forecast := x.cfg.defaultForecast * 1000,
                   seq := false, entered := true } (u .signature)))) ∧
      (901 ≤ v →
        exec (.probeEndLine reading) s = .next (look (setChan c { x with line := .openLine } (u .openLine)))) ∧
      (50 ≤ v ∧ v ≤ 349 ∨ 651 ≤ v ∧ v ≤ 900 →
        exec (.probeEndLine reading) s =
          .next (look (enterFaulted c .foreign none (setChan c { x with line := .foreign } (u .foreign)))))) ∧
    (∀ reading : Fin 65535, p.partner = some (partnerOf c) →
      let d := partnerOf c
      let u : ProbeOutcome → State := fun o =>
        { s with
          probe := none
          service := withRecords s.frame s.slotIndex c [.probeResult true (some d) o (some reading.val)] s.service }
      let crossed : State → Chan → Chan → State := fun t a b =>
        enterFaulted a .crossed (some b) (setChan a { chanAt t a with pair := .crossed } t)
      (reading.val ≤ 10 →
        exec (.probeEndPair reading) s = .next (look (setChan c { x with pair := .clear } (u .clear)))) ∧
      (10 < reading.val → (chanAt s d).life = .faulted ∨ (chanAt s d).life = .retired →
        exec (.probeEndPair reading) s = .next (look (crossed (u .crossed) c d))) ∧
      (10 < reading.val → (chanAt s d).life ≠ .faulted → (chanAt s d).life ≠ .retired →
        exec (.probeEndPair reading) s = .next (look (crossed (crossed (u .crossed) c d) d c))))

/-! ## The ports: framing -/

/-- The service port's framing. SERVICE_SELECT (R159, R160): the pending reply becomes the outgoing one, or the empty reply
word stands for it. SERVICE_WORD_COMPLETION where no command executes: a word joins the command, or is ignored once the
command is over, and SDO carries the next word of the reply or the idle word. SERVICE_DESELECT (R160, R161): the outgoing
reply is lost, and a command that lacks argument words is refused with BAD_ARGUMENT. That SERVICE_SELECT inside a
transaction leaves the state (notes/assumptions/3.md) and that a word with no transaction leaves SDO high impedance, after a
nSEL that fell in device reset too (notes/assumptions/30.md), is the model's choice. -/
def Obligations.ServiceFraming : Prop :=
  ∀ s : State, s.inReset = false →
    (s.transaction = none →
      exec .serviceSelect s = .next { s with
        service := { s.service with reply := none }
        transaction := some { words := [], done := false,
                              outgoing := match s.service.reply with
                                | some r => replyWords r
                                | none => [0xFF000000] }
        sdo := none }) ∧
    (∀ w : Word, s.transaction = none → exec (.serviceWordCompletion w) s = .next s) ∧
    (∀ t : ServiceTransaction, s.transaction = some t →
      let passed : ServiceTransaction → State := fun t' =>
        { s with transaction := some { t' with outgoing := t.outgoing.tail }, sdo := some (t.outgoing.headD 0xFFFFFFFF) }
      exec .serviceSelect s = .next s ∧
      (∀ w : Word, t.done = true → exec (.serviceWordCompletion w) s = .next (passed t)) ∧
      (∀ (w : Word) (cmd : Cmd), t.done = false → t.words = [] → Cmd.ofCode (commandByte w) = some cmd → 0 < cmd.argWords →
        exec (.serviceWordCompletion w) s = .next (passed { t with words := [w] })) ∧
      (∀ (w cw : Word) (args : List Word) (cmd : Cmd), t.done = false → t.words = cw :: args →
        Cmd.ofCode (commandByte cw) = some cmd → args.length + 1 < cmd.argWords →
        exec (.serviceWordCompletion w) s = .next (passed { t with words := cw :: (args ++ [w]) })) ∧
      (t.done = true ∨ t.words = [] → exec .serviceDeselect s = .next { s with transaction := none, sdo := none }) ∧
      (∀ (cw : Word) (args : List Word), t.done = false → t.words = cw :: args →
        exec .serviceDeselect s =
          .next (reply .service (commandByte cw) .badArgument [] { s with transaction := none, sdo := none })))

/-- The energy port's framing. ENERGY_ADDRESS_BYTE (R162): the port answers its own address, 34h + 2 × ADR1 + ADR0, and no
other. ENERGY_COMMAND_BYTE of a command with argument words sets phase ARGUMENT; ENERGY_ARGUMENT_BYTE joins the word in
progress, or completes a word that is not the last (R163). ENERGY_STOP_CONDITION keeps the assembly (R164). These hold
where no lone STATUS code waits; the lone STATUS write is `Obligations.LoneStatusFreesAssembly`. -/
def Obligations.EnergyFraming : Prop :=
  ∀ s : State, s.inReset = false → s.assembly.lone = false →
    (∀ b : Byte,
      let address := 0x34 + 2 * s.strap1.toNat + s.strap0.toNat
      (b.toNat / 2 = address →
        exec (.energyAddressByte b) s =
          .next { s with bus := if b.toNat % 2 = 1 then .read else .write 0, ackOut := true }) ∧
      (b.toNat / 2 ≠ address → exec (.energyAddressByte b) s = .next { s with bus := .idle, ackOut := false })) ∧
    exec .energyStopCondition s = .next { s with bus := .idle } ∧
    (∀ n : Nat, s.bus = .write n →
      let taken := { s with bus := .write (n + 1), ackOut := true }
      (∀ (b : Byte) (cmd : Cmd), s.assembly.cmd = none → Cmd.ofCode b = some cmd → 0 < cmd.argWords →
        exec (.energyCommandByte b) s =
          .next { taken with assembly := { cmd := some b, words := [], part := [], lone := false } }) ∧
      (∀ (b code : Byte), s.assembly.cmd = some code → ¬ (n = 0 ∧ b = 0x01) →
        (s.assembly.part.length < 3 →
          exec (.energyArgumentByte b) s =
            .next { taken with assembly := { s.assembly with part := s.assembly.part ++ [b] } }) ∧
        (∀ (b1 b2 b3 : Byte) (cmd : Cmd), s.assembly.part = [b1, b2, b3] → Cmd.ofCode code = some cmd →
          s.assembly.words.length + 1 < cmd.argWords →
          exec (.energyArgumentByte b) s = .next { taken with assembly := { s.assembly with
            words := s.assembly.words ++ [b1 ++ b2 ++ b3 ++ b], part := [] } })))

/-- A write of exactly one byte, the STATUS code, in phase ARGUMENT is STATUS (R164): the byte waits for the write's end, a
stop condition or a repeated start, which discards the command held and every byte assembled for it and executes STATUS. The
row STATUS is that same write. A byte that follows in the write makes it an argument byte (the model's reading of R164,
notes/assumptions/10.md): the two join the word in progress, or complete it; a word completed that is the command's last
executes the command, and where the STATUS code itself completed it the byte that follows is a command byte. -/
def Obligations.LoneStatusFreesAssembly : Prop :=
  ∀ (s : State) (code : Byte), s.inReset = false → s.assembly.lone = false → s.assembly.cmd = some code → s.bus = .write 0 →
    let waits := { s with bus := .write 1, ackOut := true, assembly := { s.assembly with lone := true } }
    let freed := { s with ackOut := true, bus := .write 1, assembly := { cmd := none, words := [], part := [], lone := false } }
    let answer := { reply .energy 0x01 .done [statusWord freed .energy] freed with bus := .idle }
    let joined : List Word → List Byte → State := fun words part =>
      { s with bus := .write 2, ackOut := true, assembly := { s.assembly with words := words, part := part } }
    exec (.energyArgumentByte 0x01) s = .next waits ∧ exec .energyStopCondition waits = .next answer ∧
    exec (.status .energy) waits = .next answer ∧ exec (.status .energy) s = .next answer ∧
    (∀ b : Byte, exec (.energyAddressByte b) waits = exec (.energyAddressByte b) answer) ∧
    (∀ b : Byte, s.assembly.part.length < 2 →
      exec (.energyArgumentByte b) waits = .next (joined s.assembly.words (s.assembly.part ++ [0x01, b]))) ∧
    (∀ (b b1 b2 : Byte) (cmd : Cmd), s.assembly.part = [b1, b2] → Cmd.ofCode code = some cmd →
      let words := s.assembly.words ++ [b1 ++ b2 ++ (0x01 : Byte) ++ b]
      (words.length < cmd.argWords → exec (.energyArgumentByte b) waits = .next (joined words [])) ∧
      (words.length = cmd.argWords →
        exec (.energyArgumentByte b) waits = exec (commandRow cmd .energy words) waits)) ∧
    (∀ (b b1 b2 b3 : Byte) (cmd : Cmd), s.assembly.part = [b1, b2, b3] → Cmd.ofCode code = some cmd →
      let words := s.assembly.words ++ [b1 ++ b2 ++ b3 ++ (0x01 : Byte)]
      (words.length < cmd.argWords → exec (.energyArgumentByte b) waits = .next (joined words [b])) ∧
      (words.length = cmd.argWords →
        ∃ ran, exec (commandRow cmd .energy words) { s with bus := .write 1, ackOut := true } = .next ran ∧
          commandTaken .energy waits = ran ∧
          exec (.energyArgumentByte b) waits = exec (.energyCommandByte b) { ran with bus := .write 1 } ∧
          exec (.energyCommandByte b) waits = exec (.energyCommandByte b) { ran with bus := .write 1 }))

/-- ENERGY_READ_BYTE (R165): with a reply pending, its next byte, most significant first, and the reply is absent once its
last byte has gone; with none, the port status byte taken afresh. The reply status word shows the code, the outcome and the
number of result words (chapter 12.2). -/
def Obligations.EnergyReadByteReturnsReply : Prop :=
  (∀ r : Reply, replyWords r = replyStatusWord r :: r.words) ∧
  (∀ r : Reply, replyStatusWord r =
    BitVec.ofNat 32 (r.code.toNat * 2 ^ 24 + r.outcome.code * 2 ^ 16 + r.words.length % 256 * 2 ^ 8)) ∧
  [ReplyCode.done, .notPermitted, .badArgument, .wrongState, .queueFull, .mailboxBusy, .locked, .empty].map ReplyCode.code =
    [0, 1, 2, 3, 4, 5, 6, 7] ∧
  ∀ s : State, s.inReset = false → s.bus = .read →
    (∀ r : Reply, s.energy.reply = some r →
      let bytes := (replyStatusWord r :: r.words).flatMap fun w =>
        [w.extractLsb' 24 8, w.extractLsb' 16 8, w.extractLsb' 8 8, w.extractLsb' 0 8]
      (s.readPos + 1 < bytes.length →
        exec .energyReadByte s = .next { s with sda := bytes.getD s.readPos 0, readPos := s.readPos + 1 }) ∧
      (bytes.length ≤ s.readPos + 1 →
        exec .energyReadByte s =
          .next { s with sda := bytes.getD s.readPos 0, readPos := 0, energy := { s.energy with reply := none } })) ∧
    (s.energy.reply = none →
      ∃ b : Byte, exec .energyReadByte s = .next { s with sda := b } ∧
        b.getLsbD 7 = false ∧ b.getLsbD 6 = s.assembly.cmd.isSome ∧
        b.getLsbD 5 = (s.assembly.cmd.isSome && !(s.assembly.words.isEmpty && s.assembly.part.isEmpty)) ∧
        b.getLsbD 4 = s.feedOn ∧ b.getLsbD 3 = eattn s ∧ b.extractLsb' 0 3 = 0)

/-- The word or byte that completes a command executes exactly its row of the table (R159, R163): at the service port the
32nd SCK period of its last word, at the energy port the last byte of its last argument word, or its command byte where it
takes no argument words. Before it, the codes and argument words of the 23 commands (chapter 12.2), and when that word or
byte can arrive: its command is held with all but it, and at the energy port it is not the STATUS code that opens a write
(R164). That a row stands for that arrival is the model's reading (notes/assumptions/8.md, notes/assumptions/9.md). -/
def Obligations.LastWordRunsItsRow : Prop :=
  ([.nop, .status, .seek, .read, .take, .ack, .mask, .watermark, .vote, .resetPort, .post, .cancelEdits, .probe, .wake,
      .retire, .release, .clearFault, .test, .abortTest, .send, .setGrant, .deposit, .drain].map
        fun cmd : Cmd => (cmd.code.toNat, cmd.argWords)) =
    [(0x00, 0), (0x01, 0), (0x02, 1), (0x03, 1), (0x04, 0), (0x05, 1), (0x06, 1), (0x07, 1), (0x08, 1), (0x09, 0), (0x0A, 2),
      (0x0B, 0), (0x10, 1), (0x11, 1), (0x12, 1), (0x13, 1), (0x14, 1), (0x15, 1), (0x16, 1), (0x17, 1), (0x20, 1), (0x21, 1),
      (0x22, 0)] ∧
  (∀ (code : Byte) (cmd : Cmd), Cmd.ofCode code = some cmd ↔ cmd.code = code) ∧
  (∀ w : Word, commandByte w = w.extractLsb' 24 8) ∧
  (∀ (s : State) (cmd : Cmd) (args : List Word),
    let bytes : List Word → List Byte := fun ws => ws.flatMap fun w =>
      [w.extractLsb' 24 8, w.extractLsb' 16 8, w.extractLsb' 8 8, w.extractLsb' 0 8]
    (commandDue .service cmd args s = true ↔
      s.inReset = false ∧ ∃ t, s.transaction = some t ∧ t.done = false ∧
        (args = [] ∧ t.words = [] ∨
          args ≠ [] ∧ ∃ cw, t.words = cw :: args.dropLast ∧ commandByte cw = cmd.code)) ∧
    (s.assembly.lone = false →
      (commandDue .energy cmd args s = true ↔
        s.inReset = false ∧ ∃ n, s.bus = .write n ∧
          (args = [] ∧ s.assembly.cmd = none ∨
            ∃ l, args.getLast? = some l ∧ s.assembly.cmd = some cmd.code ∧
              bytes s.assembly.words ++ s.assembly.part = (bytes args).dropLast ∧ ¬ (n = 0 ∧ l.extractLsb' 0 8 = 0x01))))) ∧
  ∀ (s : State) (cmd : Cmd) (args : List Word), s.inReset = false → args.length = cmd.argWords →
    (∀ w : Word, commandDue .service cmd args s = true → (args = [] → commandByte w = cmd.code) →
      (∀ l, args.getLast? = some l → w = l) →
      exec (.serviceWordCompletion w) s = exec (commandRow cmd .service args) s) ∧
    (s.assembly.lone = false → s.assembly.part.length < 4 → commandDue .energy cmd args s = true →
      (args = [] → s.assembly = { cmd := none, words := [], part := [], lone := false } →
        exec (.energyCommandByte cmd.code) s = exec (commandRow cmd .energy args) s) ∧
      (∀ l, args.getLast? = some l →
        exec (.energyArgumentByte (l.extractLsb' 0 8)) s = exec (commandRow cmd .energy args) s))

/-! ## The ports: refusals -/

/-- A command at a port with no right to it is refused with NOT_PERMITTED once its argument words have arrived, and a code
that names no command with BAD_ARGUMENT, its reply naming the code received (R159, R163, R166), whether it arrives as its row
or as a word of any bits 23 to 0 or a command byte; they change nothing else. -/
def Obligations.RefusedAtPort : Prop :=
  (∀ (cmd : Cmd) (args : List Word) (p : Port) (s : State), args.length = cmd.argWords → commandDue p cmd args s = true →
    (p = .energy ∧ cmd ∈ [.probe, .wake, .retire, .release, .clearFault, .test, .abortTest, .send] ∨
      p = .service ∧ cmd ∈ [.setGrant, .deposit, .drain]) →
    exec (commandRow cmd p args) s = .next (reply p cmd.code .notPermitted [] (commandTaken p s))) ∧
  (∀ (code : Byte) (s : State) (t : ServiceTransaction), s.inReset = false → Cmd.ofCode code = none →
    s.transaction = some t → t.done = false → t.words = [] →
    exec (.unknownCommand .service code) s = .next (reply .service code .badArgument [] (commandTaken .service s)) ∧
    (∀ w : Word, commandByte w = code →
      exec (.serviceWordCompletion w) s = .next (reply .service code .badArgument [] (commandTaken .service s)))) ∧
  (∀ (code : Byte) (s : State) (n : Nat), s.inReset = false → Cmd.ofCode code = none → s.bus = .write n →
    s.assembly = { cmd := none, words := [], part := [], lone := false } →
    exec (.unknownCommand .energy code) s = .next (reply .energy code .badArgument [] (commandTaken .energy s)) ∧
    exec (.energyCommandByte code) s = .next (reply .energy code .badArgument [] (commandTaken .energy s)))

/-! ## The ports: commands at either port

`commandDue` says that the word or byte which completes the command can arrive; `commandTaken` is the state once it has,
with the framing of the port alone moved (`Obligations.PortPlumbing`). -/

/-- NOP and STATUS (R167): the port's status word is the one result word, and nothing else changes. The word shows the feed
state, the port's own vote, the edit queue depth, the port's own occupancy, its mask and its four causes (chapter 12.2).
A STATUS write at the energy port whose byte waits for the write's end is `Obligations.LoneStatusFreesAssembly`. -/
def Obligations.StatusWordIsAnswered : Prop :=
  (∀ (p : Port) (s : State), commandDue p .nop [] s = true →
    exec (.nop p) s = .next (reply p 0x00 .done [statusWord (commandTaken p s) p] (commandTaken p s))) ∧
  (∀ (p : Port) (s : State), commandDue p .status [] s = true → (p = .energy → s.assembly.lone = false) →
    exec (.status p) s = .next (reply p 0x01 .done [statusWord (commandTaken p s) p] (commandTaken p s))) ∧
  (∀ (p : Port) (s : State), s.edits.length ≤ 16 → (portOf s p).queue.length ≤ 48 →
    let ps := portOf s p
    let w := statusWord s p
    w.getLsbD 31 = s.feedOn ∧ w.getLsbD 30 = ps.vote ∧ (w.extractLsb' 16 5).toNat = s.edits.length ∧
    (w.extractLsb' 8 6).toNat = ps.queue.length ∧ w.getLsbD 7 = ps.mask.voteLost ∧ w.getLsbD 6 = ps.mask.frame ∧
    w.getLsbD 5 = ps.mask.loss ∧ w.getLsbD 4 = ps.mask.level ∧ w.getLsbD 3 = ps.voteLostCause ∧
    w.getLsbD 2 = ps.frameCause ∧ w.getLsbD 1 = ps.lossCause ∧ w.getLsbD 0 = decide (ps.watermark ≤ ps.queue.length) ∧
    w.extractLsb' 21 9 = 0 ∧ w.extractLsb' 14 2 = 0)

/-- SEEK (R168): an argument in the ranges of the table sets the pointer with word offset 0, empties the latch and is
answered DONE; any other is refused with BAD_ARGUMENT and changes nothing. The pointer wraps as the table says. -/
def Obligations.SeekSetsPointer : Prop :=
  (∀ (p : Port) (arg : Word) (s : State), commandDue p .seek [arg] s = true →
    let u := commandTaken p s
    let table := (arg.extractLsb' 24 8).toNat
    let index := (arg.extractLsb' 16 8).toNat
    let direction := (arg.extractLsb' 8 8).toNat
    let inRange : Prop := table = 0 ∧ index ≤ 31 ∨ table = 1 ∧ index ≤ 23 ∨ table = 2 ∧ index = 0 ∨ table = 3 ∧ index ≤ 31
    (inRange → direction ≤ 1 →
      exec (.seek p arg) s = .next (reply p 0x02 .done [] (modPort p (fun ps => { ps with
        pointer := { table := match table with
                       | 0 => .roster
                       | 1 => .channel
                       | 2 => .account
                       | _ => .probeQueue
                     index := index, dir := if direction = 0 then .up else .down, offset := 0 }
        latch := none }) u))) ∧
    (¬ inRange ∨ 1 < direction → exec (.seek p arg) s = .next (reply p 0x02 .badArgument [] u))) ∧
  (∀ i : Nat,
    (stepIndex .roster .up i = if i < 31 then i + 1 else 0) ∧ (stepIndex .roster .down i = if i = 0 then 31 else i - 1) ∧
    (stepIndex .channel .up i = if i < 23 then i + 1 else 0) ∧ (stepIndex .channel .down i = if i = 0 then 23 else i - 1) ∧
    stepIndex .account .up 0 = 0 ∧ stepIndex .account .down 0 = 0 ∧
    (stepIndex .probeQueue .up i = if i < 31 then i + 1 else 0) ∧
    (stepIndex .probeQueue .down i = if i = 0 then 31 else i - 1))

/-- READ (R169): a count outside 1..8 is refused with BAD_ARGUMENT; else the n words taken one after another are the result,
and only the pointer and the latch (and the model's count of free values) move. Each word: at offset 0 the record is latched
whole as it stands, then the word comes from the latch and the pointer steps. -/
def Obligations.ReadTakesWords : Prop :=
  (∀ (p : Port) (arg : Word) (s : State), commandDue p .read [arg] s = true →
    let u := commandTaken p s
    let n := (arg.extractLsb' 0 8).toNat
    (1 ≤ n → n ≤ 8 →
      exec (.read p arg) s = .next (reply p 0x03 .done (readWords p n u).1 (readWords p n u).2) ∧
      (readWords p n u).1.length = n ∧
      modPort p (fun ps => { ps with pointer := (portOf u p).pointer, latch := (portOf u p).latch })
        { (readWords p n u).2 with freeCount := u.freeCount } = u) ∧
    (n = 0 ∨ 8 < n → exec (.read p arg) s = .next (reply p 0x03 .badArgument [] u))) ∧
  (∀ (p : Port) (s : State),
    let q := (portOf s p).pointer
    let next : Pointer :=
      if q.offset + 1 < recordWords q.table then { q with offset := q.offset + 1 }
      else { q with offset := 0, index := stepIndex q.table q.dir q.index }
    (q.offset = 0 →
      let record := recordOf s q.table q.index
      (readWord p s).1 = record.getD 0 0 ∧
      (readWord p s).2 = modPort p (fun ps => { ps with latch := some record, pointer := next })
        (if q.table = .channel then { s with freeCount := s.freeCount + 1 } else s)) ∧
    (∀ record, q.offset ≠ 0 → (portOf s p).latch = some record →
      (readWord p s).1 = record.getD q.offset 0 ∧ (readWord p s).2 = modPort p (fun ps => { ps with pointer := next }) s))

/-- The words of one record taken within one READ are that record as it stands, and the pointer moves to the next (R168,
R169). What each record shows, field by field (R61, R102, R131, chapter 12.4; `fld hi lo v` is v in bits hi to lo, every bit no
field names is 0): two words at a roster row, eight at a CHANNEL record and at ACCOUNT, one at a probe queue position. `free` are
the free values of named fields whose optional part is absent (notes/assumptions/12.md). -/
def Obligations.ReadReturnsWholeRecord : Prop :=
  let fld : Nat → Nat → Nat → Nat := fun hi lo v => v % 2 ^ (hi + 1 - lo) * 2 ^ lo
  let bit : Nat → Bool → Nat := fun i b => if b then 2 ^ i else 0
  let word : List Nat → Word := fun fields => BitVec.ofNat 32 fields.sum
  (∀ (p : Port) (s : State), (portOf s p).pointer.offset = 0 →
    let q := (portOf s p).pointer
    ((readWords p (recordWords q.table) s).1 = recordOf s q.table q.index) ∧
    ((portOf (readWords p (recordWords q.table) s).2 p).pointer =
      { q with offset := 0, index := stepIndex q.table q.dir q.index })) ∧
  (∀ (s : State) (r : RowIndex),
    let row := rowAt s r
    let member : Nat → Nat := fun i => match row.members[i]? with
      | some c => c.val
      | none => 0xFF
    recordOf s .roster r.val =
      [word [bit 31 row.feed, bit 30 row.exchange, fld 26 24 row.members.length],
        word [fld 31 24 (member 0), fld 23 16 (member 1), fld 15 8 (member 2), fld 7 0 (member 3)]]) ∧
  (∀ (s : State) (c : Chan),
    let x := chanAt s c
    let cfg := x.cfg
    ∃ free : Nat → Nat,
      recordOf s .channel c.val =
        [word [fld 31 28 x.life.code, fld 27 24 x.cause.code, fld 23 21 x.line.code, fld 20 19 x.pair.code, fld 17 16 x.strikes,
            fld 14 12 x.attempts, fld 9 8 x.misses, bit 7 x.seq, fld 5 4 x.sw.state.code, fld 2 0 x.sw.rampCode],
          word [fld 31 16 x.shed, fld 15 8 x.sw.openLoad, fld 7 4 x.sw.tripCount, fld 3 2 s.globals.chopCode.val,
            fld 1 0 s.globals.gain],
          word [x.forecast], word [x.meter.totalMJ],
          word [fld 31 22 x.sw.lastPeak, fld 21 12 s.globals.target, fld 9 0 x.meter.sub],
          word [fld 31 30 cfg.cls.code, fld 29 28 cfg.tripLevel.val, fld 27 26 cfg.tripDeglitch.val, fld 25 24 cfg.ocDeglitch.val,
            fld 23 23 cfg.openLoadCode.val, bit 22 cfg.autoWake, bit 21 cfg.adaptation, fld 20 18 cfg.rampCode,
            fld 17 15 cfg.wakeLimit, fld 13 0 cfg.defaultForecast],
          word ((match x.status with
              | some r => [bit 31 true, bit 30 r.stale, fld 29 26 r.band, bit 25 r.inUse, bit 24 r.charging, fld 23 21 r.alarm,
                  bit 20 r.hours.isSome, fld 19 15 (r.hours.getD (free 6))]
              | none => [fld 30 30 (free 0), fld 29 26 (free 1), fld 25 25 (free 2), fld 24 24 (free 3), fld 23 21 (free 4),
                  fld 20 20 (free 5), fld 19 15 (free 6)])
            ++ (match x.mailbox with
              | some m => [bit 14 true, fld 13 10 m.cmd.code, fld 9 6 m.arg]
              | none => [fld 13 10 (free 7), fld 9 6 (free 8)])),
          word ((match x.status with
              | some r => [fld 31 16 r.lastAnswer]
              | none => [fld 31 16 (free 14)])
            ++ (match x.test with
              | some k => [bit 15 true, fld 14 13 k.phase.code, fld 12 9 k.duration, fld 8 5 k.remaining,
                  fld 4 1 (k.bandBefore.getD (free 12)), bit 0 k.aborted]
              | none => [fld 14 13 (free 9), fld 12 9 (free 10), fld 8 5 (free 11), fld 4 1 (free 12), fld 0 0 (free 13)]))]) ∧
  (∀ (s : State) (i : Nat),
    recordOf s .account i =
      [word [bit 31 s.feedOn, bit 30 s.service.vote, bit 29 s.energy.vote, bit 28 s.busLow, bit 27 s.holdStandard,
          bit 26 s.holdDeferrable, bit 25 s.grant.unlimited, bit 24 s.grant.expiryReported, fld 23 16 s.grant.life,
          fld 15 0 s.floor],
        word [s.grant.pending], word [s.grant.latched], word [s.grant.fr], word [s.reserve], word [s.alarmLevel],
        word [fld 15 0 s.busSample],
        word [fld 31 24 s.layout.slots, fld 23 12 s.layout.len, fld 11 7 s.layout.origin, fld 4 0 s.rotor]]) ∧
  (∀ (s : State) (i : Nat),
    recordOf s .probeQueue i = match s.probeQueue[i]? with
      | some r => [word [bit 31 true, bit 30 r.pair, fld 28 24 r.chan.val]]
      | none => [0]) ∧
  [Table.roster, .channel, .account, .probeQueue].map recordWords = [2, 8, 8, 1] ∧
  [Life.dark, .waking, .fed, .testing, .resuming, .faulted, .retired].map Life.code = [0, 1, 2, 3, 4, 5, 6] ∧
  [StateCause.noCause, .silent, .openLoad, .dozed, .wakeFailed, .cleared, .released, .overcurrent, .limit, .short, .foreign,
    .crossed].map StateCause.code = [0, 1, 2, 3, 4, 5, 6, 7, 8, 9, 10, 11] ∧
  [LineResult.unknown, .openLine, .signature, .short, .foreign].map LineResult.code = [0, 1, 2, 3, 4] ∧
  [PairResult.untested, .clear, .crossed].map PairResult.code = [0, 1, 2] ∧
  [SwitchState.opened, .ramping, .on, .chopOff].map SwitchState.code = [0, 1, 2, 3] ∧
  [ChanClass.emergency, .standard, .deferrable].map ChanClass.code = [0, 1, 2] ∧
  [DownCmd.wake, .keep, .query, .beginTest, .resultQuery, .doze, .aux 0, .aux 1, .aux 2, .aux 3].map DownCmd.code =
    [1, 2, 3, 4, 5, 6, 8, 9, 10, 11] ∧
  [TestPhase.requested, .running, .resuming].map TestPhase.code = [0, 1, 2]

/-- TAKE (R175): the oldest record of the port's own queue is removed and its words are the result; at an empty queue EMPTY,
changing nothing. The loss mark stays. What a record's words show, field by field (chapter 12.3; `fld hi lo v` is v in bits hi
to lo, every bit no field names is 0, and a field that does not apply is sent as 0, R180): word 0 of every record, then the words
of each of the fifteen kinds. State and cause codes are those of `Obligations.ReadReturnsWholeRecord`. That hours a terminal
has not told are sent as 0 is the model's reading (notes/assumptions/22.md). -/
def Obligations.TakeRemovesOldest : Prop :=
  let fld : Nat → Nat → Nat → Nat := fun hi lo v => v % 2 ^ (hi + 1 - lo) * 2 ^ lo
  let bit : Nat → Bool → Nat := fun i b => if b then 2 ^ i else 0
  let word : List Nat → Word := fun fields => BitVec.ofNat 32 fields.sum
  let chan : Nat → Option Chan → Nat := fun absent c => match c with
    | some c => c.val
    | none => absent
  let status : StatusFields → List Nat := fun f =>
    [fld 29 26 f.band, bit 25 f.inUse, bit 24 f.charging, fld 23 21 f.alarm, bit 20 f.hours.isSome, fld 19 15 (f.hours.getD 0)]
  (∀ (p : Port) (s : State), commandDue p .take [] s = true →
    let u := commandTaken p s
    (∀ (r : Report) (rest : List Report), (portOf u p).queue = r :: rest →
      exec (.take p) s = .next (reply p 0x04 .done (reportWords r) (modPort p (fun ps => { ps with queue := rest }) u))) ∧
    ((portOf u p).queue = [] → exec (.take p) s = .next (reply p 0x04 .empty [] u))) ∧
  (∀ r : Report,
    let kind := match r.body with
      | .feedState .. => 1
      | .busLow .. => 2
      | .busOk .. => 3
      | .frameSummary .. => 4
      | .grantExpired .. => 5
      | .reserveLow .. => 6
      | .reserveOk .. => 7
      | .wakeResult .. => 8
      | .lost .. => 9
      | .fault .. => 10
      | .mailboxDone .. => 11
      | .statusChange .. => 12
      | .testResult .. => 13
      | .probeResult .. => 14
      | .editReject .. => 15
    reportWords r =
      word [fld 31 16 r.frame, fld 15 11 r.slot, bit 10 r.afterLoss, fld 9 5 (chan 31 r.chan), fld 4 0 kind] :: bodyWords r.body) ∧
  (∀ on sv ev changer portReset, bodyWords (.feedState on sv ev changer portReset) =
    [word [bit 31 on, bit 30 sv, bit 29 ev, bit 24 (changer = .energy), bit 16 portReset]]) ∧
  (∀ v fl, bodyWords (.busLow v fl) = [word [fld 31 16 v, fld 15 0 fl]] ∧ bodyWords (.busOk v fl) = [word [fld 31 16 v, fld 15 0 fl]]) ∧
  (∀ latched t rp, bodyWords (.frameSummary latched t rp) =
    [word [latched], word [t.spent], word [t.drawn], word [t.overdraw],
      word [fld 31 24 t.admitted, fld 23 16 t.shed, fld 15 8 t.busLow], word [rp]]) ∧
  (∀ g, bodyWords (.grantExpired g) = [word [g]]) ∧
  (∀ rp level, bodyWords (.reserveLow rp level) = [word [rp], word [level]] ∧
    bodyWords (.reserveOk rp level) = [word [rp], word [level]]) ∧
  (∀ awake attempts firmware, bodyWords (.wakeResult awake attempts firmware) =
    [word [fld 31 24 (if awake then 0 else 1), fld 23 16 attempts, fld 7 0 firmware]]) ∧
  (∀ cause last, bodyWords (.lost cause last) = [word [fld 31 24 cause.code, bit 16 last.isSome, fld 15 0 (last.getD 0)]]) ∧
  (∀ cause left strikes partner, bodyWords (.fault cause left strikes partner) =
    [word [fld 31 24 cause.code, fld 23 16 left.code, fld 15 8 strikes, fld 7 0 (chan 0xFF partner)]]) ∧
  (∀ outcome m payload fields, bodyWords (.mailboxDone outcome m payload fields) =
    [word [fld 31 24 outcome.code, fld 23 16 m.cmd.code, fld 15 8 m.arg, fld 7 0 payload],
      match fields with
      | some f => word (status f)
      | none => 0]) ∧
  (∀ f u al, bodyWords (.statusChange f (some (u, al))) = [word (status f ++ [bit 1 u]), word [fld 2 0 al]]) ∧
  (∀ f, bodyWords (.statusChange f none) = [word (status f ++ [bit 2 true]), 0]) ∧
  (∀ outcome phase duration framesRun before after estimate aborted refused,
    bodyWords (.testResult outcome phase duration framesRun before after estimate aborted refused) =
      [word [fld 31 24 outcome.code, fld 23 16 phase.code, fld 15 12 duration, fld 11 8 framesRun, bit 0 aborted],
        word [bit 31 before.isSome, fld 27 24 (before.getD 0), bit 23 after.isSome, fld 19 16 (after.getD 0),
          bit 15 estimate.isSome, fld 12 8 (estimate.getD 0), fld 7 0 refused]]) ∧
  (∀ pair partner outcome reading, bodyWords (.probeResult pair partner outcome reading) =
    [word [bit 31 pair, fld 28 24 (chan 31 partner), fld 23 16 outcome.code, fld 15 0 (reading.getD 0xFFFF)]]) ∧
  (∀ tag kind reason row, bodyWords (.editReject tag kind reason row) =
    [word [fld 31 16 tag, fld 15 12 kind.code, fld 11 8 reason.code, fld 4 0 row.val]]) ∧
  [MailOutcome.acked, .naked, .answered, .dropped].map MailOutcome.code = [0, 1, 2, 3] ∧
  [TestOutcome.complete, .refused, .aborted, .noAnswer, .lost, .faulted, .retired].map TestOutcome.code = [0, 1, 2, 3, 4, 5, 6] ∧
  [ProbeOutcome.short, .signature, .openLine, .foreign, .clear, .crossed, .cancelled, .notQueued].map ProbeOutcome.code =
    [0, 1, 2, 3, 4, 5, 6, 7] ∧
  [EditKind.rowSet, .rowAdd, .rowDrop, .channelConfig, .layout, .globals, .classHold, .floors].map EditKind.code =
    [0, 1, 2, 3, 4, 5, 6, 7] ∧
  [RejectReason.rowFull, .alreadyMember, .notMember].map RejectReason.code = [0, 1, 2]

/-- ACK, MASK and WATERMARK (R176 to R178): ACK clears the latched causes it names and not LEVEL; MASK replaces the mask whole;
WATERMARK takes a level of the port's range, else BAD_ARGUMENT. LEVEL follows the occupancy, and a line is asserted while a
cause is both set and unmasked. That ACK and MASK ignore bits 31 to 4 of their word (R180), and so refuse no set though R177
and R178 refuse one that names anything else, is the model's choice (notes/assumptions/11.md). -/
def Obligations.CausesAndLines : Prop :=
  (∀ (p : Port) (arg : Word) (s : State), commandDue p .ack [arg] s = true →
    exec (.ack p arg) s = .next (reply p 0x05 .done [] (modPort p (fun ps => { ps with
      lossCause := ps.lossCause && !arg.getLsbD 1
      frameCause := ps.frameCause && !arg.getLsbD 2
      voteLostCause := ps.voteLostCause && !arg.getLsbD 3 }) (commandTaken p s)))) ∧
  (∀ (p : Port) (arg : Word) (s : State), commandDue p .mask [arg] s = true →
    exec (.mask p arg) s = .next (reply p 0x06 .done [] (modPort p (fun ps => { ps with
      mask := { level := arg.getLsbD 0, loss := arg.getLsbD 1, frame := arg.getLsbD 2, voteLost := arg.getLsbD 3 } })
      (commandTaken p s)))) ∧
  (∀ (p : Port) (arg : Word) (s : State), commandDue p .watermark [arg] s = true →
    let n := (arg.extractLsb' 0 8).toNat
    let most := match p with
      | .service => 48
      | .energy => 16
    (1 ≤ n → n ≤ most → exec (.watermark p arg) s =
      .next (reply p 0x07 .done [] (modPort p (fun ps => { ps with watermark := n }) (commandTaken p s)))) ∧
    (n = 0 ∨ most < n → exec (.watermark p arg) s = .next (reply p 0x07 .badArgument [] (commandTaken p s)))) ∧
  (∀ s : State,
    let asserted : PortState → Bool := fun ps =>
      (decide (ps.watermark ≤ ps.queue.length) && ps.mask.level) || (ps.lossCause && ps.mask.loss) ||
        (ps.frameCause && ps.mask.frame) || (ps.voteLostCause && ps.mask.voteLost)
    sattn s = asserted s.service ∧ eattn s = asserted s.energy)

/-- VOTE (R22 to R24): the port's own vote is set or cleared and answered DONE; a value other than off and on is refused. The
feed turns ON where both votes then stand set, with FEED_STATE in both queues. It turns OFF where a vote is cleared while it
is ON: every switch opens, exchanges and placements end, FEED_STATE goes to both queues and VOTE_LOST is latched at the
other port; the admitted list, the lifecycle states and everything else stay. That an opening takes the sensed current to 0
is the model's choice (notes/assumptions/14.md). -/
def Obligations.VoteMovesFeed : Prop :=
  ∀ (p : Port) (arg : Word) (s : State), commandDue p .vote [arg] s = true →
    let u := commandTaken p s
    let value := (arg.extractLsb' 0 8).toNat
    let voted : Bool → State := fun on => modPort p (fun ps => { ps with vote := on }) u
    (1 < value → exec (.vote p arg) s = .next (reply p 0x08 .badArgument [] u)) ∧
    (value = 1 → u.feedOn = true ∨ (portOf u (otherPort p)).vote = false →
      exec (.vote p arg) s = .next (reply p 0x08 .done [] (voted true))) ∧
    (value = 1 → u.feedOn = false → (portOf u (otherPort p)).vote = true →
      let body : ReportBody := .feedState true true true p false
      exec (.vote p arg) s =
        .next (reply p 0x08 .done [] (report .energy none body (report .service none body { voted true with feedOn := true })))) ∧
    (value = 0 → u.feedOn = false → exec (.vote p arg) s = .next (reply p 0x08 .done [] (voted false))) ∧
    (value = 0 → u.feedOn = true →
      let v := voted false
      let body : ReportBody := .feedState false v.service.vote v.energy.vote p false
      ∃ w, exec (.vote p arg) s = .next (reply p 0x08 .done [] w) ∧
        w = modPort (otherPort p) (fun ps => { ps with voteLostCause := true })
          (report .energy none body (report .service none body { v with feedOn := false, channels := w.channels })) ∧
        ∀ c : Chan, FeedOffChannel u.globals u.ms (chanAt u c) (chanAt w c))

/-- RESET_PORT (R25, R155, R170, R179): the port's own state returns to its values after device reset but for the loss mark and
the tag counter, its outgoing reply or byte assembly is lost, its pending edits are removed; a feed that was ON turns OFF,
with FEED_STATE of cause PORT_RESET in both queues after the emptying and VOTE_LOST at the other port. The reply is the status
word after the reset. That an opening takes the sensed current to 0 is the model's choice (notes/assumptions/14.md). -/
def Obligations.ResetPortReturnsPort : Prop :=
  ∀ (p : Port) (s : State), commandDue p .resetPort [] s = true →
    let u := commandTaken p s
    let cleared := modPort p (fun ps => { PortState.reset with lossMark := ps.lossMark, tagCounter := ps.tagCounter })
      { u with edits := u.edits.filter fun e => e.poster ≠ p }
    let v := match p with
      | .service => { cleared with transaction := u.transaction.map fun t => { t with outgoing := [] } }
      | .energy => { cleared with assembly := { cmd := none, words := [], part := [], lone := false }, readPos := 0 }
    (u.feedOn = false → exec (.resetPort p) s = .next (reply p 0x09 .done [statusWord v p] v)) ∧
    (u.feedOn = true →
      let body : ReportBody := .feedState false v.service.vote v.energy.vote p true
      ∃ w, exec (.resetPort p) s = .next (reply p 0x09 .done [statusWord w p] w) ∧
        w = modPort (otherPort p) (fun ps => { ps with voteLostCause := true })
          (report .energy none body (report .service none body { v with feedOn := false, channels := w.channels })) ∧
        ∀ c : Chan, FeedOffChannel u.globals u.ms (chanAt u c) (chanAt w c))

/-- POST (R146 to R148): the three checks in their order, each refusal changing nothing; an accepted edit joins the queue as
its newest with the port's next tag, and the reply carries the tag and the depth. The code names the kind by the table of
chapter 12.2; kinds 0 to 5 are the service port's, 6 and 7 the energy port's (R147). -/
def Obligations.PostJoinsQueue : Prop :=
  (∀ code : Nat,
    editKindOf code = match code with
      | 0 => some .rowSet
      | 1 => some .rowAdd
      | 2 => some .rowDrop
      | 3 => some .channelConfig
      | 4 => some .layout
      | 5 => some .globals
      | 6 => some .classHold
      | 7 => some .floors
      | _ => none) ∧
  (∀ k : EditKind, editPoster k = if k = .classHold ∨ k = .floors then .energy else .service) ∧
  (∀ (p : Port) (w1 w2 : Word) (s : State), commandDue p .post [w1, w2] s = true →
    let u := commandTaken p s
    let code := (w1.extractLsb' 24 8).toNat
    let own : Prop := p = .service ∧ code ≤ 5 ∨ p = .energy ∧ (code = 6 ∨ code = 7)
    (7 < code → exec (.post p w1 w2) s = .next (reply p 0x0A .badArgument [] u)) ∧
    (code ≤ 7 → ¬ own → exec (.post p w1 w2) s = .next (reply p 0x0A .notPermitted [] u)) ∧
    (∀ k, own → editKindOf code = some k → editOfWords k w1 w2 = none →
      exec (.post p w1 w2) s = .next (reply p 0x0A .badArgument [] u)) ∧
    (∀ k content, own → editKindOf code = some k → editOfWords k w1 w2 = some content →
      (16 ≤ u.edits.length → exec (.post p w1 w2) s = .next (reply p 0x0A .queueFull [] u)) ∧
      (u.edits.length < 16 →
        let tag := (portOf u p).tagCounter
        exec (.post p w1 w2) s = .next (reply p 0x0A .done
          [BitVec.ofNat 32 (tag % 65536 * 65536 + (u.edits.length + 1))]
          (modPort p (fun ps => { ps with tagCounter := (tag + 1) % 65536 })
            { u with edits := u.edits ++ [{ poster := p, tag := tag, content := content }] })))))

/-- The post-time checks (R147, R180): exactly the edits whose fields lie in their ranges are taken, with the fields their
layout names (chapter 12.2). The configuration word of a CHANNEL record is read back as the configuration it shows. -/
def Obligations.PostChecksRanges : Prop :=
  ∀ w1 w2 : Word,
    let f : Nat → Nat → Word → Nat := fun hi lo w => w.toNat / 2 ^ lo % 2 ^ (hi + 1 - lo)
    let row := f 23 16 w1
    let chan := f 15 8 w1
    (∀ content, editOfWords .rowAdd w1 w2 = some content ↔
      ∃ (r : RowIndex) (c : Chan), content = .rowAdd r c ∧ r.val = row ∧ c.val = chan) ∧
    (∀ content, editOfWords .rowDrop w1 w2 = some content ↔
      ∃ (r : RowIndex) (c : Chan), content = .rowDrop r c ∧ r.val = row ∧ c.val = chan) ∧
    (∀ content, editOfWords .rowSet w1 w2 = some content ↔
      ∃ (r : RowIndex) (ms : List Chan), content = .rowSet r (w1.getLsbD 15) (w1.getLsbD 14) ms ∧ r.val = row ∧ ms.Nodup ∧
        f 10 8 w1 ≤ 4 ∧
        ms.map Fin.val = [f 31 24 w2, f 23 16 w2, f 15 8 w2, f 7 0 w2].take (f 10 8 w1)) ∧
    (∀ content, editOfWords .layout w1 w2 = some content ↔
      content = .layout { slots := f 23 16 w1, len := f 15 0 w2, origin := f 15 8 w1 } ∧
        LayoutInRange { slots := f 23 16 w1, len := f 15 0 w2, origin := f 15 8 w1 }) ∧
    (∀ content, editOfWords .globals w1 w2 = some content ↔
      ∃ g : Globals, content = .globals g ∧ g.chopCode.val = f 23 16 w1 ∧ g.target = f 31 16 w2 ∧ g.gain = f 7 0 w2 ∧
        100 ≤ g.target ∧ g.target ≤ 800 ∧ g.target % 50 = 0 ∧ 1 ≤ g.gain ∧ g.gain ≤ 3) ∧
    (∀ content, editOfWords .classHold w1 w2 = some content ↔
      content = .classHold (w1.getLsbD 1) (w1.getLsbD 2) ∧ w1.getLsbD 0 = false) ∧
    (∀ content, editOfWords .floors w1 w2 = some content ↔
      content = .floors (f 15 0 w1) w2.toNat ∧ f 15 0 w1 ≤ 6000 ∧ w2.toNat ≤ 4000000) ∧
    (∀ content, editOfWords .channelConfig w1 w2 = some content ↔
      ∃ (c : Chan) (cfg : ChanConfig), content = .channelConfig c cfg ∧ c.val = row ∧ ConfigInRange cfg ∧
        w2.toNat % 2 ^ 14 = cfg.defaultForecast ∧ f 17 15 w2 = cfg.wakeLimit ∧ f 20 18 w2 = cfg.rampCode ∧
        w2.getLsbD 21 = cfg.adaptation ∧ w2.getLsbD 22 = cfg.autoWake ∧ f 23 23 w2 = cfg.openLoadCode.val ∧
        f 25 24 w2 = cfg.ocDeglitch.val ∧ f 27 26 w2 = cfg.tripDeglitch.val ∧ f 29 28 w2 = cfg.tripLevel.val ∧
        f 31 30 w2 = cfg.cls.code) ∧
    (∀ cfg : ChanConfig, ConfigInRange cfg → configOfWord (configWord cfg) = some cfg)

/-- CANCEL_EDITS (R154): every pending edit of the issuing port is removed, the other port's stay in their order, no record is
entered, and the reply carries the number removed and the depth after. -/
def Obligations.CancelEditsRemovesOwn : Prop :=
  ∀ (p : Port) (s : State), commandDue p .cancelEdits [] s = true → (commandTaken p s).edits.length ≤ 16 →
    let u := commandTaken p s
    let kept := u.edits.filter fun e => e.poster ≠ p
    exec (.cancelEdits p) s = .next (reply p 0x0B .done
      [BitVec.ofNat 32 ((u.edits.filter fun e => e.poster = p).length * 256 + kept.length)] { u with edits := kept })

/-! ## The commands of the service port -/

/-- PROBE (R122, R123): BAD_ARGUMENT outside the ranges; WRONG_STATE where the channel is not DARK or a PAIR's partner is
powered; a request already queued is merged and stays as it is; with room it is appended, with a look; a full queue refuses
with QUEUE_FULL. The reply carries the channel's state and the occupancy (after the look, notes/assumptions/18.md). -/
def Obligations.ProbeCommandArrives : Prop :=
  ∀ (arg : Word) (s : State), commandDue .service .probe [arg] s = true →
    let u := commandTaken .service s
    let k := (arg.extractLsb' 16 8).toNat
    (∀ c : Chan, (arg.extractLsb' 24 8).toNat = c.val → k ≤ 1 →
      let r : ProbeRequest := { chan := c, pair := decide (k = 1) }
      let ok : Prop := (chanAt u c).life = .dark ∧ (k = 1 → powered (chanAt u (partnerOf c)).life = false)
      let answer : State → State := fun t =>
        reply .service 0x10 .done [wordOf [place 8 24 (chanAt t c).life.code, place 8 0 t.probeQueue.length]] t
      (¬ ok → exec (.probe .service arg) s = .next (reply .service 0x10 .wrongState [] u)) ∧
      (ok → r ∈ u.probeQueue → exec (.probe .service arg) s = .next (answer u)) ∧
      (ok → r ∉ u.probeQueue → u.probeQueue.length < 32 →
        exec (.probe .service arg) s = .next (answer (look { u with probeQueue := u.probeQueue ++ [r] }))) ∧
      (ok → r ∉ u.probeQueue → 32 ≤ u.probeQueue.length →
        exec (.probe .service arg) s = .next (reply .service 0x10 .queueFull [] u))) ∧
    (24 ≤ (arg.extractLsb' 24 8).toNat ∨ 1 < k →
      exec (.probe .service arg) s = .next (reply .service 0x10 .badArgument [] u))

/-- WAKE, RETIRE, RELEASE and CLEAR_FAULT (R89, R90, R98 to R101, R129): BAD_ARGUMENT for no channel, WRONG_STATE or LOCKED
where the conditions fail, each changing nothing; else the transition, and DONE with the channel's state. WAKE and RETIRE of
a channel whose probe is in progress end it with PROBE_RESULT CANCELLED and a look. That WAKE leaves the open-load count is
the model's choice (notes/assumptions/28.md). -/
def Obligations.LifeCommandsAct : Prop :=
  ∀ (arg : Word) (s : State),
    let n := (arg.extractLsb' 24 8).toNat
    let u := commandTaken .service s
    let answer : Byte → Chan → State → State := fun code c t =>
      reply .service code .done [BitVec.ofNat 32 (chanAt t c).life.code] t
    let refused : Byte → ReplyCode → State := fun code o => reply .service code o [] u
    let unprobed : Chan → State → State := fun c t =>
      match t.probe with
      | some p =>
        if p.chan = c then
          look { t with
            probe := none
            service := withRecords t.frame t.slotIndex c
              [.probeResult p.partner.isSome (if p.partner.isSome then some (partnerOf c) else none) .cancelled none] t.service }
        else t
      | none => t
    (commandDue .service .wake [arg] s = true →
      (24 ≤ n → exec (.wake .service arg) s = .next (refused 0x11 .badArgument)) ∧
      (∀ c : Chan, n = c.val →
        let x := chanAt u c
        let ok : Prop := x.life = .dark ∧ x.line ≠ .short ∧ x.line ≠ .foreign
        (ok → exec (.wake .service arg) s = .next (answer 0x11 c (unprobed c (setChan c { x with
          life := .waking, attempts := 0, forecast := x.cfg.defaultForecast * 1000, seq := false, entered := true } u)))) ∧
        (¬ ok → exec (.wake .service arg) s = .next (refused 0x11 .wrongState)))) ∧
    (commandDue .service .retire [arg] s = true →
      (24 ≤ n → exec (.retire .service arg) s = .next (refused 0x12 .badArgument)) ∧
      (∀ c : Chan, n = c.val →
        ((chanAt u c).life ≠ .retired →
          exec (.retire .service arg) s = .next (answer 0x12 c (unprobed c (enterRetired c u)))) ∧
        ((chanAt u c).life = .retired → exec (.retire .service arg) s = .next (refused 0x12 .wrongState)))) ∧
    (commandDue .service .release [arg] s = true →
      (24 ≤ n → exec (.release .service arg) s = .next (refused 0x13 .badArgument)) ∧
      (∀ c : Chan, n = c.val →
        ((chanAt u c).life = .retired → exec (.release .service arg) s =
          .next (answer 0x13 c (enterDark c .released none .noAnswer (setChan c { chanAt u c with strikes := 0 } u)))) ∧
        ((chanAt u c).life ≠ .retired → exec (.release .service arg) s = .next (refused 0x13 .wrongState)))) ∧
    (commandDue .service .clearFault [arg] s = true →
      (24 ≤ n → exec (.clearFault .service arg) s = .next (refused 0x14 .badArgument)) ∧
      (∀ c : Chan, n = c.val →
        let x := chanAt u c
        (x.life = .faulted → x.strikes < 3 →
          exec (.clearFault .service arg) s = .next (answer 0x14 c (enterDark c .cleared none .noAnswer u))) ∧
        (x.life = .faulted → 3 ≤ x.strikes → exec (.clearFault .service arg) s = .next (refused 0x14 .locked)) ∧
        (x.life ≠ .faulted → exec (.clearFault .service arg) s = .next (refused 0x14 .wrongState))))

/-- TEST, ABORT_TEST and SEND (R101, R118, R134, R135, R140): BAD_ARGUMENT for a channel number of 24 or more, then the
checks in their order, each refusal changing nothing. An accepted
TEST places BEGIN_TEST and creates the context; an accepted SEND fills the mailbox; ABORT_TEST ends a request not on the line
with TEST_RESULT ABORTED, or takes a running test to RESUMING. -/
def Obligations.TestAndSendAct : Prop :=
  (∀ (arg : Word) (s : State), 24 ≤ (arg.extractLsb' 24 8).toNat →
    let refused : Byte → State := fun code => reply .service code .badArgument [] (commandTaken .service s)
    (commandDue .service .test [arg] s = true → exec (.test .service arg) s = .next (refused 0x15)) ∧
    (commandDue .service .abortTest [arg] s = true → exec (.abortTest .service arg) s = .next (refused 0x16)) ∧
    (commandDue .service .send [arg] s = true → exec (.send .service arg) s = .next (refused 0x17))) ∧
  (∀ (arg : Word) (s : State) (c : Chan), (arg.extractLsb' 24 8).toNat = c.val →
    let u := commandTaken .service s
    let x := chanAt u c
    let answer : Byte → State → State := fun code t =>
      reply .service code .done [BitVec.ofNat 32 (chanAt t c).life.code] t
    let refused : Byte → ReplyCode → State := fun code o => reply .service code o [] u
    (commandDue .service .test [arg] s = true →
      let d := (arg.extractLsb' 16 8).toNat
      let inUse : Prop := ∃ r, x.status = some r ∧ r.inUse = true
      (d = 0 ∨ 15 < d → exec (.test .service arg) s = .next (refused 0x15 .badArgument)) ∧
      (1 ≤ d → d ≤ 15 → x.life ≠ .fed → exec (.test .service arg) s = .next (refused 0x15 .wrongState)) ∧
      (1 ≤ d → d ≤ 15 → x.life = .fed → x.mailbox ≠ none → exec (.test .service arg) s = .next (refused 0x15 .mailboxBusy)) ∧
      (1 ≤ d → d ≤ 15 → x.life = .fed → x.mailbox = none → inUse →
        exec (.test .service arg) s = .next (refused 0x15 .wrongState)) ∧
      (1 ≤ d → d ≤ 15 → x.life = .fed → x.mailbox = none → ¬ inUse →
        exec (.test .service arg) s = .next (answer 0x15 (setChan c { x with
          mailbox := some { cmd := .beginTest, arg := d }
          test := some { phase := .requested, duration := d, remaining := 0, bandBefore := none, aborted := false } } u)))) ∧
    (commandDue .service .abortTest [arg] s = true →
      let onLine : Prop := ∃ e, x.exchange = some e ∧ e.cmd = .beginTest
      (x.test = none → exec (.abortTest .service arg) s = .next (refused 0x16 .wrongState)) ∧
      (∀ k, x.test = some k →
        (k.phase = .requested → onLine → exec (.abortTest .service arg) s = .next (refused 0x16 .wrongState)) ∧
        (k.phase = .requested → ¬ onLine → x.mailbox.map Mailbox.cmd = some .beginTest →
          exec (.abortTest .service arg) s = .next (answer 0x16
            { setChan c { x with test := none, mailbox := none } u with
              service := withRecords u.frame u.slotIndex c
                [.testResult .aborted .requested k.duration 0 none none none k.aborted 0] u.service })) ∧
        (k.phase = .running → exec (.abortTest .service arg) s = .next (answer 0x16 (setChan c { x with
          life := .resuming, forecast := x.cfg.defaultForecast * 1000, seq := false, entered := true
          sw := { x.sw with openLoad := 0 }, test := some { k with phase := .resuming, aborted := true } } u))) ∧
        (k.phase = .resuming → exec (.abortTest .service arg) s = .next (refused 0x16 .wrongState)))) ∧
    (commandDue .service .send [arg] s = true →
      let code := (arg.extractLsb' 16 8).toNat
      let a := (arg.extractLsb' 8 8).toNat
      let cmd : DownCmd :=
        match code with
        | 3 => .query
        | 6 => .doze
        | 8 => .aux 0
        | 9 => .aux 1
        | 10 => .aux 2
        | _ => .aux 3
      let known : Prop := (code = 3 ∨ code = 6) ∧ a = 0 ∨ (8 ≤ code ∧ code ≤ 11) ∧ a ≤ 15
      (¬ known → exec (.send .service arg) s = .next (refused 0x17 .badArgument)) ∧
      (known → x.life ≠ .fed → exec (.send .service arg) s = .next (refused 0x17 .wrongState)) ∧
      (known → x.life = .fed → x.mailbox ≠ none → exec (.send .service arg) s = .next (refused 0x17 .mailboxBusy)) ∧
      (known → x.life = .fed → x.mailbox = none →
        exec (.send .service arg) s =
          .next (answer 0x17 (setChan c { x with mailbox := some { cmd := cmd, arg := a } } u)))))

/-! ## The commands of the energy port -/

/-- SET_GRANT (R49): a grant of at most 1,000,000 mJ is taken at once, UNLIMITED for a life of 0, with expiry not reported; the
latched grant and the frame remainder stay. A larger one is refused with BAD_ARGUMENT, any at the service port with
NOT_PERMITTED, and changes nothing. -/
def Obligations.SetGrantSetsPending : Prop :=
  (∀ (arg : Word) (s : State), commandDue .service .setGrant [arg] s = true →
    exec (.setGrant .service arg) s = .next (reply .service 0x20 .notPermitted [] (commandTaken .service s))) ∧
  (∀ (arg : Word) (s : State), commandDue .energy .setGrant [arg] s = true →
    let u := commandTaken .energy s
    let life := (arg.extractLsb' 24 8).toNat
    let grant := (arg.extractLsb' 0 24).toNat
    (grant ≤ 1000000 → exec (.setGrant .energy arg) s = .next (reply .energy 0x20 .done [] { u with
      grant := { u.grant with pending := grant, unlimited := decide (life = 0), life := life, expiryReported := false } })) ∧
    (1000000 < grant → exec (.setGrant .energy arg) s = .next (reply .energy 0x20 .badArgument [] u)))

/-- DEPOSIT (R52, R54): the reserve rises by the amount × 1000 up to its cap, the reply carries it, and RESERVE_OK is entered
exactly where the deposit takes it from below the alarm level to not below. Above 4,000,000 mJ: BAD_ARGUMENT; at the service
port: NOT_PERMITTED. -/
def Obligations.DepositRaisesReserve : Prop :=
  (∀ (arg : Word) (s : State), commandDue .service .deposit [arg] s = true →
    exec (.deposit .service arg) s = .next (reply .service 0x21 .notPermitted [] (commandTaken .service s))) ∧
  (∀ (arg : Word) (s : State), commandDue .energy .deposit [arg] s = true →
    let u := commandTaken .energy s
    let rp := min 4000000000 (u.reserve + arg.toNat * 1000)
    let crosses : Prop := u.reserve < u.alarmLevel * 1000 ∧ u.alarmLevel * 1000 ≤ rp
    let answer : State → State := fun t => reply .energy 0x21 .done [BitVec.ofNat 32 rp] { t with reserve := rp }
    (arg.toNat ≤ 4000000 → ¬ crosses → exec (.deposit .energy arg) s = .next (answer u)) ∧
    (arg.toNat ≤ 4000000 → crosses →
      exec (.deposit .energy arg) s = .next (answer (report .energy none (.reserveOk rp u.alarmLevel) u))) ∧
    (4000000 < arg.toNat → exec (.deposit .energy arg) s = .next (reply .energy 0x21 .badArgument [] u)))

/-- DRAIN (R53): the reserve becomes 0 and the reply carries the balance before; no record, no tally. At the service port it
is refused with NOT_PERMITTED and changes nothing. -/
def Obligations.DrainEmptiesReserve : Prop :=
  (∀ s : State, commandDue .energy .drain [] s = true →
    let u := commandTaken .energy s
    exec (.drain .energy) s =
      .next (reply .energy 0x22 .done [BitVec.ofNat 32 u.reserve] { u with reserve := 0 })) ∧
  (∀ s : State, commandDue .service .drain [] s = true →
    exec (.drain .service) s = .next (reply .service 0x22 .notPermitted [] (commandTaken .service s)))

/-! ## Messages on the line -/

/-- Messages on the line (R107, R109, R111, chapter 12.1). A downlink's sixteen marks give back its command, argument and
sequence value; the check completes the fields to remainder 0. The marks built of an answer's fields are read back as that
answer for the sequence value they echo, as CORRUPT for the other, and as CORRUPT with any one mark changed. The check is
that of x⁴ + x + 1 from remainder 0 (R111): a mark that differs from the most significant mark of the remainder gives
feedback 1, which inverts the two least significant marks after the shift. A field's first mark is its most significant. -/
def Obligations.LineMessagesRoundTrip : Prop :=
  (checkOf [] = 0 ∧
    ∀ (ms : List Bool) (m : Bool),
      let r := checkOf ms
      checkOf (ms ++ [m]) = if m = r.getLsbD 3 then r <<< 1 else (r <<< 1) ^^^ 0b0011) ∧
  (valueOf [] = 0 ∧ ∀ (ms : List Bool) (m : Bool), valueOf (ms ++ [m]) = 2 * valueOf ms + m.toNat) ∧
  (∀ v : Nat, marksOf 0 v = [] ∧ ∀ k : Nat, marksOf (k + 1) v = decide (v / 2 ^ k % 2 = 1) :: marksOf k v) ∧
  (∀ (cmd : DownCmd) (arg : Nat) (seq : Bool), arg < 16 →
    let ms := downlinkMarks cmd arg seq
    ms.length = 16 ∧ ms.take 2 = [true, false] ∧ valueOf ((ms.drop 2).take 4) = cmd.code ∧
    valueOf ((ms.drop 6).take 4) = arg ∧ ms[10]? = some seq ∧ checkOf ((ms.drop 2).take 13) = 0 ∧ ms[15]? = some false) ∧
  (∀ fields : List Bool, checkOf (fields ++ marksOf 4 (checkOf fields).toNat) = 0) ∧
  (∀ (a : Answer) (seq : Bool), a.band < 16 → a.alarm < 8 → a.payload < 32 →
    let code := match a.kind with
      | .hello => 1
      | .status => 2
      | .ack => 3
      | .nak => 4
      | .result => 5
    let fields := marksOf 3 code ++ marksOf 4 a.band ++ [a.inUse, a.charging] ++ marksOf 3 a.alarm ++ marksOf 5 a.payload ++ [seq]
    let ms := [true, true] ++ fields ++ marksOf 4 (checkOf fields).toNat
    ms.length = 24 ∧ answerOfMarks seq ms = some a ∧ answerOfMarks (!seq) ms = none ∧
    (∀ i < 24, answerOfMarks seq (ms.set i (!ms.getD i false)) = none))

/-! ## Whole-machine rules -/

/-- A port's own state changes by its own commands alone (R22, R157, R172, R179): no command of the other port and no event of
the block but a device reset changes its vote, pending reply, table pointer, record latch, mask, watermark or tag counter, or
takes a record from its queue, clears a cause latched, moves its framing or, outside a frame opening, touches its edits. -/
def Obligations.PortStateIsPrivate : Prop :=
  ∀ (i : Instr) (s t : State) (p : Port), commandPort i ≠ some p → i ≠ .deviceReset → exec i s = .next t →
    let a := portOf s p
    let b := portOf t p
    b.vote = a.vote ∧ b.reply = a.reply ∧ b.pointer = a.pointer ∧ b.latch = a.latch ∧ b.mask = a.mask ∧
    b.watermark = a.watermark ∧ b.tagCounter = a.tagCounter ∧ (∃ more, b.queue = a.queue ++ more) ∧
    (a.lossCause = true → b.lossCause = true) ∧ (a.frameCause = true → b.frameCause = true) ∧
    (a.voteLostCause = true → b.voteLostCause = true) ∧
    (p = .service → t.transaction = s.transaction ∧ t.sdo = s.sdo) ∧
    (p = .energy →
      t.bus = s.bus ∧ t.assembly = s.assembly ∧ t.readPos = s.readPos ∧ t.sda = s.sda ∧ t.ackOut = s.ackOut) ∧
    (i ≠ .frameOpening → (t.edits.filter fun e => e.poster = p) = s.edits.filter fun e => e.poster = p)

/-- What a frame holds fixed (R1, R14, R28, R51): between frame openings the roster, the layout, the global settings, the
configurations, the class hold set, the bus floor, the alarm level, the frame number, the rotor and the latched grant stay,
and the frame remainder does not increase. -/
def Obligations.PolicyFixedWithinFrame : Prop :=
  ∀ (i : Instr) (s t : State), i ≠ .frameOpening → i ≠ .deviceReset → exec i s = .next t →
    t.roster = s.roster ∧ t.layout = s.layout ∧ t.globals = s.globals ∧ (∀ c, (chanAt t c).cfg = (chanAt s c).cfg) ∧
    t.holdStandard = s.holdStandard ∧ t.holdDeferrable = s.holdDeferrable ∧ t.floor = s.floor ∧
    t.alarmLevel = s.alarmLevel ∧ t.frame = s.frame ∧ t.rotor = s.rotor ∧ t.grant.latched = s.grant.latched ∧
    t.grant.fr ≤ s.grant.fr

/-! ## Invariants -/

/-- The state after device reset satisfies every invariant stated below, with any commands waiting. -/
def Obligations.InvariantsHoldAtReset : Prop :=
  ∀ q : List Instr,
    let s := { State.reset with pending := q }
    FeedAgrees s ∧ SwitchesSound s ∧ TestsMatch s ∧ ExchangesFit s ∧ ProbesSound s ∧ FrameInRange s ∧ AccountInRange s ∧
    ChannelsInRange s ∧ EnergiesInRange s ∧ QueuesBounded s

/-- The feed is ON exactly while both votes are set (R23), and a switch that is not OPEN belongs to an admitted channel in a
powered state with the feed ON (R66): every step keeps both. -/
def Obligations.FeedAndSwitchesStaySound : Prop :=
  (∀ s t : State, FeedAgrees s → step s = .next t → FeedAgrees t) ∧
  (∀ s t : State, SwitchesSound s → step s = .next t → SwitchesSound t)

/-- A test context is present whenever the channel is TESTING or RESUMING, a FED channel holds one only in phase REQUESTED with
its BEGIN_TEST in the mailbox, only a FED channel has a mailbox command, and an exchange in flight belongs to a powered channel
and carries its mailbox command (R95, R106, R118, R133): every step keeps it. -/
def Obligations.TestsKeepMatching : Prop :=
  ∀ s t : State, TestsMatch s → step s = .next t → TestsMatch t

/-- Every exchange ends at least 0.5 ms before the slot end of the slot that placed it (R104, R108, R110), and in its uplink
has received exactly the marks that have closed, but for the 24th (R103, R109): every step keeps it. That the 24th mark comes
with the uplink end is the model's choice (notes/assumptions/16.md). -/
def Obligations.ExchangesKeepInsideSlot : Prop :=
  ∀ s t : State, ExchangesFit s → step s = .next t → ExchangesFit t

/-- The probe queue holds each request once and at most 32, and the probed channel of a probe in progress is DARK (R121, R123,
R129): every step keeps it where the tests match their channels (`Obligations.TestsKeepMatching`). -/
def Obligations.ProbesStaySound : Prop :=
  ∀ s t : State, TestsMatch s → ProbesSound s → step s = .next t → ProbesSound t

/-- The registers the rules give a range stay in it: the timebase, the roster, the layout, the admitted list, the global
settings and the pending edits (R1, R8, R12, R21, R81, R147); the account and its tallies (R41, R48, R51, R52, R54, R57, R60); of each channel the counts,
the switch, the meter, the configuration, the status record, the mailbox and the test (R41, R65, R85, R88, R97, R116, R118,
R133); its forecast and slot accumulator (R39, R41, R44); at the ports the queues, watermarks, tag counters, pointers, latches,
replies, byte assembly and read position (R145, R148, R157, R163, R165, R172, R177). -/
def Obligations.RangesAreKept : Prop :=
  (∀ s t : State, FrameInRange s → step s = .next t → FrameInRange t) ∧
  (∀ s t : State, AccountInRange s → step s = .next t → AccountInRange t) ∧
  (∀ s t : State, ChannelsInRange s → step s = .next t → ChannelsInRange t) ∧
  (∀ s t : State, EnergiesInRange s → step s = .next t → EnergiesInRange t) ∧
  (∀ s t : State, QueuesBounded s → step s = .next t → QueuesBounded t)
end

