-- ==== Sys2Proof/Laws/State.lean ====
section
/-! SUPPORT. What each named operation of Machine/Ops.lean leaves of each field of the state: one lemma for each field an
operation does not write, and what reading gives after writing. No later proof unfolds a record update. -/

namespace Sys2Proof.Machine

/-! ## setChan, modChan, mapChans: they write the channels alone -/

@[simp] theorem setChan_pending (c : Chan) (x : Channel) (s : State) : (setChan c x s).pending = s.pending := rfl
@[simp] theorem setChan_inReset (c : Chan) (x : Channel) (s : State) : (setChan c x s).inReset = s.inReset := rfl
@[simp] theorem setChan_ms (c : Chan) (x : Channel) (s : State) : (setChan c x s).ms = s.ms := rfl
@[simp] theorem setChan_layout (c : Chan) (x : Channel) (s : State) : (setChan c x s).layout = s.layout := rfl
@[simp] theorem setChan_frame (c : Chan) (x : Channel) (s : State) : (setChan c x s).frame = s.frame := rfl
@[simp] theorem setChan_slotIndex (c : Chan) (x : Channel) (s : State) : (setChan c x s).slotIndex = s.slotIndex := rfl
@[simp] theorem setChan_rotor (c : Chan) (x : Channel) (s : State) : (setChan c x s).rotor = s.rotor := rfl
@[simp] theorem setChan_slotTime (c : Chan) (x : Channel) (s : State) : (setChan c x s).slotTime = s.slotTime := rfl
@[simp] theorem setChan_phase (c : Chan) (x : Channel) (s : State) : (setChan c x s).phase = s.phase := rfl
@[simp] theorem setChan_roster (c : Chan) (x : Channel) (s : State) : (setChan c x s).roster = s.roster := rfl
@[simp] theorem setChan_feedOn (c : Chan) (x : Channel) (s : State) : (setChan c x s).feedOn = s.feedOn := rfl
@[simp] theorem setChan_admitted (c : Chan) (x : Channel) (s : State) : (setChan c x s).admitted = s.admitted := rfl
@[simp] theorem setChan_busLow (c : Chan) (x : Channel) (s : State) : (setChan c x s).busLow = s.busLow := rfl
@[simp] theorem setChan_holdStandard (c : Chan) (x : Channel) (s : State) : (setChan c x s).holdStandard = s.holdStandard := rfl
@[simp] theorem setChan_holdDeferrable (c : Chan) (x : Channel) (s : State) : (setChan c x s).holdDeferrable = s.holdDeferrable := rfl
@[simp] theorem setChan_busSample (c : Chan) (x : Channel) (s : State) : (setChan c x s).busSample = s.busSample := rfl
@[simp] theorem setChan_grant (c : Chan) (x : Channel) (s : State) : (setChan c x s).grant = s.grant := rfl
@[simp] theorem setChan_reserve (c : Chan) (x : Channel) (s : State) : (setChan c x s).reserve = s.reserve := rfl
@[simp] theorem setChan_alarmLevel (c : Chan) (x : Channel) (s : State) : (setChan c x s).alarmLevel = s.alarmLevel := rfl
@[simp] theorem setChan_floor (c : Chan) (x : Channel) (s : State) : (setChan c x s).floor = s.floor := rfl
@[simp] theorem setChan_tallies (c : Chan) (x : Channel) (s : State) : (setChan c x s).tallies = s.tallies := rfl
@[simp] theorem setChan_globals (c : Chan) (x : Channel) (s : State) : (setChan c x s).globals = s.globals := rfl
@[simp] theorem setChan_probeQueue (c : Chan) (x : Channel) (s : State) : (setChan c x s).probeQueue = s.probeQueue := rfl
@[simp] theorem setChan_probe (c : Chan) (x : Channel) (s : State) : (setChan c x s).probe = s.probe := rfl
@[simp] theorem setChan_waiting (c : Chan) (x : Channel) (s : State) : (setChan c x s).waiting = s.waiting := rfl
@[simp] theorem setChan_edits (c : Chan) (x : Channel) (s : State) : (setChan c x s).edits = s.edits := rfl
@[simp] theorem setChan_service (c : Chan) (x : Channel) (s : State) : (setChan c x s).service = s.service := rfl
@[simp] theorem setChan_energy (c : Chan) (x : Channel) (s : State) : (setChan c x s).energy = s.energy := rfl
@[simp] theorem setChan_transaction (c : Chan) (x : Channel) (s : State) : (setChan c x s).transaction = s.transaction := rfl
@[simp] theorem setChan_sdo (c : Chan) (x : Channel) (s : State) : (setChan c x s).sdo = s.sdo := rfl
@[simp] theorem setChan_strap1 (c : Chan) (x : Channel) (s : State) : (setChan c x s).strap1 = s.strap1 := rfl
@[simp] theorem setChan_strap0 (c : Chan) (x : Channel) (s : State) : (setChan c x s).strap0 = s.strap0 := rfl
@[simp] theorem setChan_bus (c : Chan) (x : Channel) (s : State) : (setChan c x s).bus = s.bus := rfl
@[simp] theorem setChan_assembly (c : Chan) (x : Channel) (s : State) : (setChan c x s).assembly = s.assembly := rfl
@[simp] theorem setChan_readPos (c : Chan) (x : Channel) (s : State) : (setChan c x s).readPos = s.readPos := rfl
@[simp] theorem setChan_sda (c : Chan) (x : Channel) (s : State) : (setChan c x s).sda = s.sda := rfl
@[simp] theorem setChan_ackOut (c : Chan) (x : Channel) (s : State) : (setChan c x s).ackOut = s.ackOut := rfl
@[simp] theorem setChan_freeCount (c : Chan) (x : Channel) (s : State) : (setChan c x s).freeCount = s.freeCount := rfl

@[simp] theorem modChan_pending (c : Chan) (f : Channel → Channel) (s : State) : (modChan c f s).pending = s.pending := rfl
@[simp] theorem modChan_inReset (c : Chan) (f : Channel → Channel) (s : State) : (modChan c f s).inReset = s.inReset := rfl
@[simp] theorem modChan_ms (c : Chan) (f : Channel → Channel) (s : State) : (modChan c f s).ms = s.ms := rfl
@[simp] theorem modChan_layout (c : Chan) (f : Channel → Channel) (s : State) : (modChan c f s).layout = s.layout := rfl
@[simp] theorem modChan_frame (c : Chan) (f : Channel → Channel) (s : State) : (modChan c f s).frame = s.frame := rfl
@[simp] theorem modChan_slotIndex (c : Chan) (f : Channel → Channel) (s : State) : (modChan c f s).slotIndex = s.slotIndex := rfl
@[simp] theorem modChan_rotor (c : Chan) (f : Channel → Channel) (s : State) : (modChan c f s).rotor = s.rotor := rfl
@[simp] theorem modChan_slotTime (c : Chan) (f : Channel → Channel) (s : State) : (modChan c f s).slotTime = s.slotTime := rfl
@[simp] theorem modChan_phase (c : Chan) (f : Channel → Channel) (s : State) : (modChan c f s).phase = s.phase := rfl
@[simp] theorem modChan_roster (c : Chan) (f : Channel → Channel) (s : State) : (modChan c f s).roster = s.roster := rfl
@[simp] theorem modChan_feedOn (c : Chan) (f : Channel → Channel) (s : State) : (modChan c f s).feedOn = s.feedOn := rfl
@[simp] theorem modChan_admitted (c : Chan) (f : Channel → Channel) (s : State) : (modChan c f s).admitted = s.admitted := rfl
@[simp] theorem modChan_busLow (c : Chan) (f : Channel → Channel) (s : State) : (modChan c f s).busLow = s.busLow := rfl
@[simp] theorem modChan_holdStandard (c : Chan) (f : Channel → Channel) (s : State) : (modChan c f s).holdStandard = s.holdStandard := rfl
@[simp] theorem modChan_holdDeferrable (c : Chan) (f : Channel → Channel) (s : State) : (modChan c f s).holdDeferrable = s.holdDeferrable := rfl
@[simp] theorem modChan_busSample (c : Chan) (f : Channel → Channel) (s : State) : (modChan c f s).busSample = s.busSample := rfl
@[simp] theorem modChan_grant (c : Chan) (f : Channel → Channel) (s : State) : (modChan c f s).grant = s.grant := rfl
@[simp] theorem modChan_reserve (c : Chan) (f : Channel → Channel) (s : State) : (modChan c f s).reserve = s.reserve := rfl
@[simp] theorem modChan_alarmLevel (c : Chan) (f : Channel → Channel) (s : State) : (modChan c f s).alarmLevel = s.alarmLevel := rfl
@[simp] theorem modChan_floor (c : Chan) (f : Channel → Channel) (s : State) : (modChan c f s).floor = s.floor := rfl
@[simp] theorem modChan_tallies (c : Chan) (f : Channel → Channel) (s : State) : (modChan c f s).tallies = s.tallies := rfl
@[simp] theorem modChan_globals (c : Chan) (f : Channel → Channel) (s : State) : (modChan c f s).globals = s.globals := rfl
@[simp] theorem modChan_probeQueue (c : Chan) (f : Channel → Channel) (s : State) : (modChan c f s).probeQueue = s.probeQueue := rfl
@[simp] theorem modChan_probe (c : Chan) (f : Channel → Channel) (s : State) : (modChan c f s).probe = s.probe := rfl
@[simp] theorem modChan_waiting (c : Chan) (f : Channel → Channel) (s : State) : (modChan c f s).waiting = s.waiting := rfl
@[simp] theorem modChan_edits (c : Chan) (f : Channel → Channel) (s : State) : (modChan c f s).edits = s.edits := rfl
@[simp] theorem modChan_service (c : Chan) (f : Channel → Channel) (s : State) : (modChan c f s).service = s.service := rfl
@[simp] theorem modChan_energy (c : Chan) (f : Channel → Channel) (s : State) : (modChan c f s).energy = s.energy := rfl
@[simp] theorem modChan_transaction (c : Chan) (f : Channel → Channel) (s : State) : (modChan c f s).transaction = s.transaction := rfl
@[simp] theorem modChan_sdo (c : Chan) (f : Channel → Channel) (s : State) : (modChan c f s).sdo = s.sdo := rfl
@[simp] theorem modChan_strap1 (c : Chan) (f : Channel → Channel) (s : State) : (modChan c f s).strap1 = s.strap1 := rfl
@[simp] theorem modChan_strap0 (c : Chan) (f : Channel → Channel) (s : State) : (modChan c f s).strap0 = s.strap0 := rfl
@[simp] theorem modChan_bus (c : Chan) (f : Channel → Channel) (s : State) : (modChan c f s).bus = s.bus := rfl
@[simp] theorem modChan_assembly (c : Chan) (f : Channel → Channel) (s : State) : (modChan c f s).assembly = s.assembly := rfl
@[simp] theorem modChan_readPos (c : Chan) (f : Channel → Channel) (s : State) : (modChan c f s).readPos = s.readPos := rfl
@[simp] theorem modChan_sda (c : Chan) (f : Channel → Channel) (s : State) : (modChan c f s).sda = s.sda := rfl
@[simp] theorem modChan_ackOut (c : Chan) (f : Channel → Channel) (s : State) : (modChan c f s).ackOut = s.ackOut := rfl
@[simp] theorem modChan_freeCount (c : Chan) (f : Channel → Channel) (s : State) : (modChan c f s).freeCount = s.freeCount := rfl

@[simp] theorem mapChans_pending (f : Chan → Channel → Channel) (s : State) : (mapChans f s).pending = s.pending := by simp only [mapChans]
@[simp] theorem mapChans_inReset (f : Chan → Channel → Channel) (s : State) : (mapChans f s).inReset = s.inReset := by simp only [mapChans]
@[simp] theorem mapChans_ms (f : Chan → Channel → Channel) (s : State) : (mapChans f s).ms = s.ms := by simp only [mapChans]
@[simp] theorem mapChans_layout (f : Chan → Channel → Channel) (s : State) : (mapChans f s).layout = s.layout := by simp only [mapChans]
@[simp] theorem mapChans_frame (f : Chan → Channel → Channel) (s : State) : (mapChans f s).frame = s.frame := by simp only [mapChans]
@[simp] theorem mapChans_slotIndex (f : Chan → Channel → Channel) (s : State) : (mapChans f s).slotIndex = s.slotIndex := by simp only [mapChans]
@[simp] theorem mapChans_rotor (f : Chan → Channel → Channel) (s : State) : (mapChans f s).rotor = s.rotor := by simp only [mapChans]
@[simp] theorem mapChans_slotTime (f : Chan → Channel → Channel) (s : State) : (mapChans f s).slotTime = s.slotTime := by simp only [mapChans]
@[simp] theorem mapChans_phase (f : Chan → Channel → Channel) (s : State) : (mapChans f s).phase = s.phase := by simp only [mapChans]
@[simp] theorem mapChans_roster (f : Chan → Channel → Channel) (s : State) : (mapChans f s).roster = s.roster := by simp only [mapChans]
@[simp] theorem mapChans_feedOn (f : Chan → Channel → Channel) (s : State) : (mapChans f s).feedOn = s.feedOn := by simp only [mapChans]
@[simp] theorem mapChans_admitted (f : Chan → Channel → Channel) (s : State) : (mapChans f s).admitted = s.admitted := by simp only [mapChans]
@[simp] theorem mapChans_busLow (f : Chan → Channel → Channel) (s : State) : (mapChans f s).busLow = s.busLow := by simp only [mapChans]
@[simp] theorem mapChans_holdStandard (f : Chan → Channel → Channel) (s : State) : (mapChans f s).holdStandard = s.holdStandard := by simp only [mapChans]
@[simp] theorem mapChans_holdDeferrable (f : Chan → Channel → Channel) (s : State) : (mapChans f s).holdDeferrable = s.holdDeferrable := by simp only [mapChans]
@[simp] theorem mapChans_busSample (f : Chan → Channel → Channel) (s : State) : (mapChans f s).busSample = s.busSample := by simp only [mapChans]
@[simp] theorem mapChans_grant (f : Chan → Channel → Channel) (s : State) : (mapChans f s).grant = s.grant := by simp only [mapChans]
@[simp] theorem mapChans_reserve (f : Chan → Channel → Channel) (s : State) : (mapChans f s).reserve = s.reserve := by simp only [mapChans]
@[simp] theorem mapChans_alarmLevel (f : Chan → Channel → Channel) (s : State) : (mapChans f s).alarmLevel = s.alarmLevel := by simp only [mapChans]
@[simp] theorem mapChans_floor (f : Chan → Channel → Channel) (s : State) : (mapChans f s).floor = s.floor := by simp only [mapChans]
@[simp] theorem mapChans_tallies (f : Chan → Channel → Channel) (s : State) : (mapChans f s).tallies = s.tallies := by simp only [mapChans]
@[simp] theorem mapChans_globals (f : Chan → Channel → Channel) (s : State) : (mapChans f s).globals = s.globals := by simp only [mapChans]
@[simp] theorem mapChans_probeQueue (f : Chan → Channel → Channel) (s : State) : (mapChans f s).probeQueue = s.probeQueue := by simp only [mapChans]
@[simp] theorem mapChans_probe (f : Chan → Channel → Channel) (s : State) : (mapChans f s).probe = s.probe := by simp only [mapChans]
@[simp] theorem mapChans_waiting (f : Chan → Channel → Channel) (s : State) : (mapChans f s).waiting = s.waiting := by simp only [mapChans]
@[simp] theorem mapChans_edits (f : Chan → Channel → Channel) (s : State) : (mapChans f s).edits = s.edits := by simp only [mapChans]
@[simp] theorem mapChans_service (f : Chan → Channel → Channel) (s : State) : (mapChans f s).service = s.service := by simp only [mapChans]
@[simp] theorem mapChans_energy (f : Chan → Channel → Channel) (s : State) : (mapChans f s).energy = s.energy := by simp only [mapChans]
@[simp] theorem mapChans_transaction (f : Chan → Channel → Channel) (s : State) : (mapChans f s).transaction = s.transaction := by simp only [mapChans]
@[simp] theorem mapChans_sdo (f : Chan → Channel → Channel) (s : State) : (mapChans f s).sdo = s.sdo := by simp only [mapChans]
@[simp] theorem mapChans_strap1 (f : Chan → Channel → Channel) (s : State) : (mapChans f s).strap1 = s.strap1 := by simp only [mapChans]
@[simp] theorem mapChans_strap0 (f : Chan → Channel → Channel) (s : State) : (mapChans f s).strap0 = s.strap0 := by simp only [mapChans]
@[simp] theorem mapChans_bus (f : Chan → Channel → Channel) (s : State) : (mapChans f s).bus = s.bus := by simp only [mapChans]
@[simp] theorem mapChans_assembly (f : Chan → Channel → Channel) (s : State) : (mapChans f s).assembly = s.assembly := by simp only [mapChans]
@[simp] theorem mapChans_readPos (f : Chan → Channel → Channel) (s : State) : (mapChans f s).readPos = s.readPos := by simp only [mapChans]
@[simp] theorem mapChans_sda (f : Chan → Channel → Channel) (s : State) : (mapChans f s).sda = s.sda := by simp only [mapChans]
@[simp] theorem mapChans_ackOut (f : Chan → Channel → Channel) (s : State) : (mapChans f s).ackOut = s.ackOut := by simp only [mapChans]
@[simp] theorem mapChans_freeCount (f : Chan → Channel → Channel) (s : State) : (mapChans f s).freeCount = s.freeCount := by simp only [mapChans]

/-! ## Reading a channel after a write -/

@[simp] theorem chanAt_setChan_self (c : Chan) (x : Channel) (s : State) : chanAt (setChan c x s) c = x := by
  simp [chanAt, setChan]

theorem chanAt_setChan_other {c d : Chan} (h : d ≠ c) (x : Channel) (s : State) : chanAt (setChan c x s) d = chanAt s d := by
  have : c.val ≠ d.val := fun e => h (Fin.ext e.symm)
  simp [chanAt, setChan, this]

theorem chanAt_setChan (c d : Chan) (x : Channel) (s : State) : chanAt (setChan c x s) d = if d = c then x else chanAt s d := by
  by_cases h : d = c
  · subst h; simp
  · simp [chanAt_setChan_other h, h]

@[simp] theorem chanAt_modChan_self (c : Chan) (f : Channel → Channel) (s : State) :
    chanAt (modChan c f s) c = f (chanAt s c) := by simp [modChan]

theorem chanAt_modChan_other {c d : Chan} (h : d ≠ c) (f : Channel → Channel) (s : State) :
    chanAt (modChan c f s) d = chanAt s d := by simp [modChan, chanAt_setChan_other h]

@[simp] theorem chanAt_mapChans (f : Chan → Channel → Channel) (s : State) (c : Chan) :
    chanAt (mapChans f s) c = f c (chanAt s c) := by simp [chanAt, mapChans]

/-- Two states with the same channels read alike. -/
theorem chanAt_congr {s t : State} (h : s.channels = t.channels) (c : Chan) : chanAt s c = chanAt t c := by
  simp [chanAt, h]

@[simp] theorem setChan_setChan (c : Chan) (x y : Channel) (s : State) : setChan c x (setChan c y s) = setChan c x s := by
  simp [setChan]

/-- A channel written back as it stands leaves the state. -/
@[simp] theorem setChan_chanAt (c : Chan) (s : State) : setChan c (chanAt s c) s = s := by simp [setChan, chanAt]

/-! ## modPort: it writes one port alone -/

@[simp] theorem modPort_pending (p : Port) (f : PortState → PortState) (s : State) : (modPort p f s).pending = s.pending := by
  cases p <;> rfl
@[simp] theorem modPort_inReset (p : Port) (f : PortState → PortState) (s : State) : (modPort p f s).inReset = s.inReset := by
  cases p <;> rfl
@[simp] theorem modPort_ms (p : Port) (f : PortState → PortState) (s : State) : (modPort p f s).ms = s.ms := by
  cases p <;> rfl
@[simp] theorem modPort_layout (p : Port) (f : PortState → PortState) (s : State) : (modPort p f s).layout = s.layout := by
  cases p <;> rfl
@[simp] theorem modPort_frame (p : Port) (f : PortState → PortState) (s : State) : (modPort p f s).frame = s.frame := by
  cases p <;> rfl
@[simp] theorem modPort_slotIndex (p : Port) (f : PortState → PortState) (s : State) : (modPort p f s).slotIndex = s.slotIndex := by
  cases p <;> rfl
@[simp] theorem modPort_rotor (p : Port) (f : PortState → PortState) (s : State) : (modPort p f s).rotor = s.rotor := by
  cases p <;> rfl
@[simp] theorem modPort_slotTime (p : Port) (f : PortState → PortState) (s : State) : (modPort p f s).slotTime = s.slotTime := by
  cases p <;> rfl
@[simp] theorem modPort_phase (p : Port) (f : PortState → PortState) (s : State) : (modPort p f s).phase = s.phase := by
  cases p <;> rfl
@[simp] theorem modPort_roster (p : Port) (f : PortState → PortState) (s : State) : (modPort p f s).roster = s.roster := by
  cases p <;> rfl
@[simp] theorem modPort_feedOn (p : Port) (f : PortState → PortState) (s : State) : (modPort p f s).feedOn = s.feedOn := by
  cases p <;> rfl
@[simp] theorem modPort_admitted (p : Port) (f : PortState → PortState) (s : State) : (modPort p f s).admitted = s.admitted := by
  cases p <;> rfl
@[simp] theorem modPort_busLow (p : Port) (f : PortState → PortState) (s : State) : (modPort p f s).busLow = s.busLow := by
  cases p <;> rfl
@[simp] theorem modPort_holdStandard (p : Port) (f : PortState → PortState) (s : State) : (modPort p f s).holdStandard = s.holdStandard := by
  cases p <;> rfl
@[simp] theorem modPort_holdDeferrable (p : Port) (f : PortState → PortState) (s : State) : (modPort p f s).holdDeferrable = s.holdDeferrable := by
  cases p <;> rfl
@[simp] theorem modPort_busSample (p : Port) (f : PortState → PortState) (s : State) : (modPort p f s).busSample = s.busSample := by
  cases p <;> rfl
@[simp] theorem modPort_grant (p : Port) (f : PortState → PortState) (s : State) : (modPort p f s).grant = s.grant := by
  cases p <;> rfl
@[simp] theorem modPort_reserve (p : Port) (f : PortState → PortState) (s : State) : (modPort p f s).reserve = s.reserve := by
  cases p <;> rfl
@[simp] theorem modPort_alarmLevel (p : Port) (f : PortState → PortState) (s : State) : (modPort p f s).alarmLevel = s.alarmLevel := by
  cases p <;> rfl
@[simp] theorem modPort_floor (p : Port) (f : PortState → PortState) (s : State) : (modPort p f s).floor = s.floor := by
  cases p <;> rfl
@[simp] theorem modPort_tallies (p : Port) (f : PortState → PortState) (s : State) : (modPort p f s).tallies = s.tallies := by
  cases p <;> rfl
@[simp] theorem modPort_channels (p : Port) (f : PortState → PortState) (s : State) : (modPort p f s).channels = s.channels := by
  cases p <;> rfl
@[simp] theorem modPort_globals (p : Port) (f : PortState → PortState) (s : State) : (modPort p f s).globals = s.globals := by
  cases p <;> rfl
@[simp] theorem modPort_probeQueue (p : Port) (f : PortState → PortState) (s : State) : (modPort p f s).probeQueue = s.probeQueue := by
  cases p <;> rfl
@[simp] theorem modPort_probe (p : Port) (f : PortState → PortState) (s : State) : (modPort p f s).probe = s.probe := by
  cases p <;> rfl
@[simp] theorem modPort_waiting (p : Port) (f : PortState → PortState) (s : State) : (modPort p f s).waiting = s.waiting := by
  cases p <;> rfl
@[simp] theorem modPort_edits (p : Port) (f : PortState → PortState) (s : State) : (modPort p f s).edits = s.edits := by
  cases p <;> rfl
@[simp] theorem modPort_transaction (p : Port) (f : PortState → PortState) (s : State) : (modPort p f s).transaction = s.transaction := by
  cases p <;> rfl
@[simp] theorem modPort_sdo (p : Port) (f : PortState → PortState) (s : State) : (modPort p f s).sdo = s.sdo := by
  cases p <;> rfl
@[simp] theorem modPort_strap1 (p : Port) (f : PortState → PortState) (s : State) : (modPort p f s).strap1 = s.strap1 := by
  cases p <;> rfl
@[simp] theorem modPort_strap0 (p : Port) (f : PortState → PortState) (s : State) : (modPort p f s).strap0 = s.strap0 := by
  cases p <;> rfl
@[simp] theorem modPort_bus (p : Port) (f : PortState → PortState) (s : State) : (modPort p f s).bus = s.bus := by
  cases p <;> rfl
@[simp] theorem modPort_assembly (p : Port) (f : PortState → PortState) (s : State) : (modPort p f s).assembly = s.assembly := by
  cases p <;> rfl
@[simp] theorem modPort_readPos (p : Port) (f : PortState → PortState) (s : State) : (modPort p f s).readPos = s.readPos := by
  cases p <;> rfl
@[simp] theorem modPort_sda (p : Port) (f : PortState → PortState) (s : State) : (modPort p f s).sda = s.sda := by
  cases p <;> rfl
@[simp] theorem modPort_ackOut (p : Port) (f : PortState → PortState) (s : State) : (modPort p f s).ackOut = s.ackOut := by
  cases p <;> rfl
@[simp] theorem modPort_freeCount (p : Port) (f : PortState → PortState) (s : State) : (modPort p f s).freeCount = s.freeCount := by
  cases p <;> rfl
@[simp] theorem modPort_service_energy (f : PortState → PortState) (s : State) : (modPort .service f s).energy = s.energy := rfl
@[simp] theorem modPort_energy_service (f : PortState → PortState) (s : State) : (modPort .energy f s).service = s.service := rfl
@[simp] theorem chanAt_modPort (p : Port) (f : PortState → PortState) (s : State) (c : Chan) :
    chanAt (modPort p f s) c = chanAt s c := by cases p <;> rfl

/-! ## report and reply: they write one port, and reply the energy port's read position -/

@[simp] theorem report_pending (p : Port) (c : Option Chan) (b : ReportBody) (s : State) : (report p c b s).pending = s.pending := by
  cases p <;> rfl
@[simp] theorem report_inReset (p : Port) (c : Option Chan) (b : ReportBody) (s : State) : (report p c b s).inReset = s.inReset := by
  cases p <;> rfl
@[simp] theorem report_ms (p : Port) (c : Option Chan) (b : ReportBody) (s : State) : (report p c b s).ms = s.ms := by
  cases p <;> rfl
@[simp] theorem report_layout (p : Port) (c : Option Chan) (b : ReportBody) (s : State) : (report p c b s).layout = s.layout := by
  cases p <;> rfl
@[simp] theorem report_frame (p : Port) (c : Option Chan) (b : ReportBody) (s : State) : (report p c b s).frame = s.frame := by
  cases p <;> rfl
@[simp] theorem report_slotIndex (p : Port) (c : Option Chan) (b : ReportBody) (s : State) : (report p c b s).slotIndex = s.slotIndex := by
  cases p <;> rfl
@[simp] theorem report_rotor (p : Port) (c : Option Chan) (b : ReportBody) (s : State) : (report p c b s).rotor = s.rotor := by
  cases p <;> rfl
@[simp] theorem report_slotTime (p : Port) (c : Option Chan) (b : ReportBody) (s : State) : (report p c b s).slotTime = s.slotTime := by
  cases p <;> rfl
@[simp] theorem report_phase (p : Port) (c : Option Chan) (b : ReportBody) (s : State) : (report p c b s).phase = s.phase := by
  cases p <;> rfl
@[simp] theorem report_roster (p : Port) (c : Option Chan) (b : ReportBody) (s : State) : (report p c b s).roster = s.roster := by
  cases p <;> rfl
@[simp] theorem report_feedOn (p : Port) (c : Option Chan) (b : ReportBody) (s : State) : (report p c b s).feedOn = s.feedOn := by
  cases p <;> rfl
@[simp] theorem report_admitted (p : Port) (c : Option Chan) (b : ReportBody) (s : State) : (report p c b s).admitted = s.admitted := by
  cases p <;> rfl
@[simp] theorem report_busLow (p : Port) (c : Option Chan) (b : ReportBody) (s : State) : (report p c b s).busLow = s.busLow := by
  cases p <;> rfl
@[simp] theorem report_holdStandard (p : Port) (c : Option Chan) (b : ReportBody) (s : State) : (report p c b s).holdStandard = s.holdStandard := by
  cases p <;> rfl
@[simp] theorem report_holdDeferrable (p : Port) (c : Option Chan) (b : ReportBody) (s : State) : (report p c b s).holdDeferrable = s.holdDeferrable := by
  cases p <;> rfl
@[simp] theorem report_busSample (p : Port) (c : Option Chan) (b : ReportBody) (s : State) : (report p c b s).busSample = s.busSample := by
  cases p <;> rfl
@[simp] theorem report_grant (p : Port) (c : Option Chan) (b : ReportBody) (s : State) : (report p c b s).grant = s.grant := by
  cases p <;> rfl
@[simp] theorem report_reserve (p : Port) (c : Option Chan) (b : ReportBody) (s : State) : (report p c b s).reserve = s.reserve := by
  cases p <;> rfl
@[simp] theorem report_alarmLevel (p : Port) (c : Option Chan) (b : ReportBody) (s : State) : (report p c b s).alarmLevel = s.alarmLevel := by
  cases p <;> rfl
@[simp] theorem report_floor (p : Port) (c : Option Chan) (b : ReportBody) (s : State) : (report p c b s).floor = s.floor := by
  cases p <;> rfl
@[simp] theorem report_tallies (p : Port) (c : Option Chan) (b : ReportBody) (s : State) : (report p c b s).tallies = s.tallies := by
  cases p <;> rfl
@[simp] theorem report_channels (p : Port) (c : Option Chan) (b : ReportBody) (s : State) : (report p c b s).channels = s.channels := by
  cases p <;> rfl
@[simp] theorem report_globals (p : Port) (c : Option Chan) (b : ReportBody) (s : State) : (report p c b s).globals = s.globals := by
  cases p <;> rfl
@[simp] theorem report_probeQueue (p : Port) (c : Option Chan) (b : ReportBody) (s : State) : (report p c b s).probeQueue = s.probeQueue := by
  cases p <;> rfl
@[simp] theorem report_probe (p : Port) (c : Option Chan) (b : ReportBody) (s : State) : (report p c b s).probe = s.probe := by
  cases p <;> rfl
@[simp] theorem report_waiting (p : Port) (c : Option Chan) (b : ReportBody) (s : State) : (report p c b s).waiting = s.waiting := by
  cases p <;> rfl
@[simp] theorem report_edits (p : Port) (c : Option Chan) (b : ReportBody) (s : State) : (report p c b s).edits = s.edits := by
  cases p <;> rfl
@[simp] theorem report_transaction (p : Port) (c : Option Chan) (b : ReportBody) (s : State) : (report p c b s).transaction = s.transaction := by
  cases p <;> rfl
@[simp] theorem report_sdo (p : Port) (c : Option Chan) (b : ReportBody) (s : State) : (report p c b s).sdo = s.sdo := by
  cases p <;> rfl
@[simp] theorem report_strap1 (p : Port) (c : Option Chan) (b : ReportBody) (s : State) : (report p c b s).strap1 = s.strap1 := by
  cases p <;> rfl
@[simp] theorem report_strap0 (p : Port) (c : Option Chan) (b : ReportBody) (s : State) : (report p c b s).strap0 = s.strap0 := by
  cases p <;> rfl
@[simp] theorem report_bus (p : Port) (c : Option Chan) (b : ReportBody) (s : State) : (report p c b s).bus = s.bus := by
  cases p <;> rfl
@[simp] theorem report_assembly (p : Port) (c : Option Chan) (b : ReportBody) (s : State) : (report p c b s).assembly = s.assembly := by
  cases p <;> rfl
@[simp] theorem report_readPos (p : Port) (c : Option Chan) (b : ReportBody) (s : State) : (report p c b s).readPos = s.readPos := by
  cases p <;> rfl
@[simp] theorem report_sda (p : Port) (c : Option Chan) (b : ReportBody) (s : State) : (report p c b s).sda = s.sda := by
  cases p <;> rfl
@[simp] theorem report_ackOut (p : Port) (c : Option Chan) (b : ReportBody) (s : State) : (report p c b s).ackOut = s.ackOut := by
  cases p <;> rfl
@[simp] theorem report_freeCount (p : Port) (c : Option Chan) (b : ReportBody) (s : State) : (report p c b s).freeCount = s.freeCount := by
  cases p <;> rfl
@[simp] theorem chanAt_report (p : Port) (c : Option Chan) (b : ReportBody) (s : State) (d : Chan) :
    chanAt (report p c b s) d = chanAt s d := by cases p <;> rfl

@[simp] theorem reply_pending (p : Port) (k : Byte) (o : ReplyCode) (ws : List Word) (s : State) : (reply p k o ws s).pending = s.pending := by
  cases p <;> rfl
@[simp] theorem reply_inReset (p : Port) (k : Byte) (o : ReplyCode) (ws : List Word) (s : State) : (reply p k o ws s).inReset = s.inReset := by
  cases p <;> rfl
@[simp] theorem reply_ms (p : Port) (k : Byte) (o : ReplyCode) (ws : List Word) (s : State) : (reply p k o ws s).ms = s.ms := by
  cases p <;> rfl
@[simp] theorem reply_layout (p : Port) (k : Byte) (o : ReplyCode) (ws : List Word) (s : State) : (reply p k o ws s).layout = s.layout := by
  cases p <;> rfl
@[simp] theorem reply_frame (p : Port) (k : Byte) (o : ReplyCode) (ws : List Word) (s : State) : (reply p k o ws s).frame = s.frame := by
  cases p <;> rfl
@[simp] theorem reply_slotIndex (p : Port) (k : Byte) (o : ReplyCode) (ws : List Word) (s : State) : (reply p k o ws s).slotIndex = s.slotIndex := by
  cases p <;> rfl
@[simp] theorem reply_rotor (p : Port) (k : Byte) (o : ReplyCode) (ws : List Word) (s : State) : (reply p k o ws s).rotor = s.rotor := by
  cases p <;> rfl
@[simp] theorem reply_slotTime (p : Port) (k : Byte) (o : ReplyCode) (ws : List Word) (s : State) : (reply p k o ws s).slotTime = s.slotTime := by
  cases p <;> rfl
@[simp] theorem reply_phase (p : Port) (k : Byte) (o : ReplyCode) (ws : List Word) (s : State) : (reply p k o ws s).phase = s.phase := by
  cases p <;> rfl
@[simp] theorem reply_roster (p : Port) (k : Byte) (o : ReplyCode) (ws : List Word) (s : State) : (reply p k o ws s).roster = s.roster := by
  cases p <;> rfl
@[simp] theorem reply_feedOn (p : Port) (k : Byte) (o : ReplyCode) (ws : List Word) (s : State) : (reply p k o ws s).feedOn = s.feedOn := by
  cases p <;> rfl
@[simp] theorem reply_admitted (p : Port) (k : Byte) (o : ReplyCode) (ws : List Word) (s : State) : (reply p k o ws s).admitted = s.admitted := by
  cases p <;> rfl
@[simp] theorem reply_busLow (p : Port) (k : Byte) (o : ReplyCode) (ws : List Word) (s : State) : (reply p k o ws s).busLow = s.busLow := by
  cases p <;> rfl
@[simp] theorem reply_holdStandard (p : Port) (k : Byte) (o : ReplyCode) (ws : List Word) (s : State) : (reply p k o ws s).holdStandard = s.holdStandard := by
  cases p <;> rfl
@[simp] theorem reply_holdDeferrable (p : Port) (k : Byte) (o : ReplyCode) (ws : List Word) (s : State) : (reply p k o ws s).holdDeferrable = s.holdDeferrable := by
  cases p <;> rfl
@[simp] theorem reply_busSample (p : Port) (k : Byte) (o : ReplyCode) (ws : List Word) (s : State) : (reply p k o ws s).busSample = s.busSample := by
  cases p <;> rfl
@[simp] theorem reply_grant (p : Port) (k : Byte) (o : ReplyCode) (ws : List Word) (s : State) : (reply p k o ws s).grant = s.grant := by
  cases p <;> rfl
@[simp] theorem reply_reserve (p : Port) (k : Byte) (o : ReplyCode) (ws : List Word) (s : State) : (reply p k o ws s).reserve = s.reserve := by
  cases p <;> rfl
@[simp] theorem reply_alarmLevel (p : Port) (k : Byte) (o : ReplyCode) (ws : List Word) (s : State) : (reply p k o ws s).alarmLevel = s.alarmLevel := by
  cases p <;> rfl
@[simp] theorem reply_floor (p : Port) (k : Byte) (o : ReplyCode) (ws : List Word) (s : State) : (reply p k o ws s).floor = s.floor := by
  cases p <;> rfl
@[simp] theorem reply_tallies (p : Port) (k : Byte) (o : ReplyCode) (ws : List Word) (s : State) : (reply p k o ws s).tallies = s.tallies := by
  cases p <;> rfl
@[simp] theorem reply_channels (p : Port) (k : Byte) (o : ReplyCode) (ws : List Word) (s : State) : (reply p k o ws s).channels = s.channels := by
  cases p <;> rfl
@[simp] theorem reply_globals (p : Port) (k : Byte) (o : ReplyCode) (ws : List Word) (s : State) : (reply p k o ws s).globals = s.globals := by
  cases p <;> rfl
@[simp] theorem reply_probeQueue (p : Port) (k : Byte) (o : ReplyCode) (ws : List Word) (s : State) : (reply p k o ws s).probeQueue = s.probeQueue := by
  cases p <;> rfl
@[simp] theorem reply_probe (p : Port) (k : Byte) (o : ReplyCode) (ws : List Word) (s : State) : (reply p k o ws s).probe = s.probe := by
  cases p <;> rfl
@[simp] theorem reply_waiting (p : Port) (k : Byte) (o : ReplyCode) (ws : List Word) (s : State) : (reply p k o ws s).waiting = s.waiting := by
  cases p <;> rfl
@[simp] theorem reply_edits (p : Port) (k : Byte) (o : ReplyCode) (ws : List Word) (s : State) : (reply p k o ws s).edits = s.edits := by
  cases p <;> rfl
@[simp] theorem reply_transaction (p : Port) (k : Byte) (o : ReplyCode) (ws : List Word) (s : State) : (reply p k o ws s).transaction = s.transaction := by
  cases p <;> rfl
@[simp] theorem reply_sdo (p : Port) (k : Byte) (o : ReplyCode) (ws : List Word) (s : State) : (reply p k o ws s).sdo = s.sdo := by
  cases p <;> rfl
@[simp] theorem reply_strap1 (p : Port) (k : Byte) (o : ReplyCode) (ws : List Word) (s : State) : (reply p k o ws s).strap1 = s.strap1 := by
  cases p <;> rfl
@[simp] theorem reply_strap0 (p : Port) (k : Byte) (o : ReplyCode) (ws : List Word) (s : State) : (reply p k o ws s).strap0 = s.strap0 := by
  cases p <;> rfl
@[simp] theorem reply_bus (p : Port) (k : Byte) (o : ReplyCode) (ws : List Word) (s : State) : (reply p k o ws s).bus = s.bus := by
  cases p <;> rfl
@[simp] theorem reply_assembly (p : Port) (k : Byte) (o : ReplyCode) (ws : List Word) (s : State) : (reply p k o ws s).assembly = s.assembly := by
  cases p <;> rfl
@[simp] theorem reply_sda (p : Port) (k : Byte) (o : ReplyCode) (ws : List Word) (s : State) : (reply p k o ws s).sda = s.sda := by
  cases p <;> rfl
@[simp] theorem reply_ackOut (p : Port) (k : Byte) (o : ReplyCode) (ws : List Word) (s : State) : (reply p k o ws s).ackOut = s.ackOut := by
  cases p <;> rfl
@[simp] theorem reply_freeCount (p : Port) (k : Byte) (o : ReplyCode) (ws : List Word) (s : State) : (reply p k o ws s).freeCount = s.freeCount := by
  cases p <;> rfl
@[simp] theorem reply_service_readPos (k : Byte) (o : ReplyCode) (ws : List Word) (s : State) :
    (reply .service k o ws s).readPos = s.readPos := rfl
@[simp] theorem chanAt_reply (p : Port) (k : Byte) (o : ReplyCode) (ws : List Word) (s : State) (d : Chan) :
    chanAt (reply p k o ws s) d = chanAt s d := by cases p <;> rfl

end Sys2Proof.Machine
end

