-- ==== Sys2Proof/Laws/Ops.lean ====
section
/-! SUPPORT. What each shared operation can do, said once: instants, records, looks, entries to the unpowered states,
charging, admission, edits and port commands. Proofs cite these and do not unfold the operation. -/

namespace Sys2Proof.Machine

/-! ## Instants -/

/-- When a step at instant `t` may be taken now. -/
theorem timely_iff (t : Nat) (s : State) : timely t s = true ↔ t ≤ us (s.ms + 1) ∧ overdueBefore t s = false := by
  simp [timely]

/-- While a slot boundary is due, no step after it is timely (R3). -/
theorem le_of_timely_of_boundaryDue {t : Nat} {s : State} (h : timely t s = true) (hb : boundaryDue s = true) : t ≤ us s.ms := by
  have h2 := ((timely_iff t s).1 h).2
  simp only [overdueBefore, hb, Bool.or_eq_false_iff, Bool.true_and, decide_eq_false_iff_not] at h2
  exact Nat.le_of_not_lt h2.1.1

/-- A timely instant has nothing of any channel before it. -/
theorem not_before_of_timely {t : Nat} {s : State} (h : timely t s = true) (c : Chan) {d : Nat}
    (hd : d ∈ chanDeadlines s.ms (chanAt s c)) : t ≤ d := by
  have h2 := ((timely_iff t s).1 h).2
  simp only [overdueBefore, Bool.or_eq_false_iff, List.any_eq_false] at h2
  have := h2.1.2 c (List.mem_finRange c)
  simp only [List.any_eq_true, decide_eq_true_eq, not_exists, not_and] at this
  exact Nat.le_of_not_lt (this d hd)

/-! ## Ports and records -/

@[simp] theorem portOf_modPort_self (p : Port) (f : PortState → PortState) (s : State) :
    portOf (modPort p f s) p = f (portOf s p) := by cases p <;> rfl

@[simp] theorem portOf_modPort_other (p : Port) (f : PortState → PortState) (s : State) :
    portOf (modPort p f s) (otherPort p) = portOf s (otherPort p) := by cases p <;> rfl

theorem portOf_congr {s t : State} (h1 : s.service = t.service) (h2 : s.energy = t.energy) (p : Port) :
    portOf s p = portOf t p := by cases p <;> assumption

/-- Entering a record touches the queue, the loss mark and the LOSS cause, and nothing else of a port. -/
theorem enterRecord_frame (cap : Nat) (r : Report) (ps : PortState) : ∃ q lm lc,
    enterRecord cap r ps = { ps with queue := q, lossMark := lm, lossCause := lc } ∧
    (q = ps.queue ∨ q = ps.queue ++ [{ r with afterLoss := ps.lossMark }]) ∧ (ps.lossCause = true → lc = true) := by
  unfold enterRecord
  split
  · exact ⟨_, _, _, rfl, .inr rfl, id⟩
  · exact ⟨_, _, _, rfl, .inl rfl, fun _ => rfl⟩

/-- A queue within its capacity stays within it. -/
theorem enterRecord_bounded {cap : Nat} (r : Report) {ps : PortState} (h : ps.queue.length ≤ cap) :
    (enterRecord cap r ps).queue.length ≤ cap := by
  unfold enterRecord
  split
  · simpa using by omega
  · exact h

/-- A channel's report is one more record at the service port. -/
theorem reportChan_eq (c : Chan) (b : ReportBody) (s : State) :
    reportChan c b s = { s with service := withRecords s.frame s.slotIndex c [b] s.service } := rfl

/-- Records entered one list after another. -/
theorem withRecords_append (fr sl : Nat) (c : Chan) (as bs : List ReportBody) (ps : PortState) :
    withRecords fr sl c (as ++ bs) ps = withRecords fr sl c bs (withRecords fr sl c as ps) := by
  simp [withRecords, List.foldl_append]

@[simp] theorem withRecords_nil (fr sl : Nat) (c : Chan) (ps : PortState) : withRecords fr sl c [] ps = ps := rfl

/-- A reply touches its port's reply and the energy port's read position, and nothing else. -/
theorem reply_eq (p : Port) (k : Byte) (o : ReplyCode) (ws : List Word) (s : State) :
    reply p k o ws s =
      { modPort p (fun ps => { ps with reply := some { code := k, outcome := o, words := ws } }) s with
        readPos := match p with
          | .service => s.readPos
          | .energy => 0 } := by cases p <;> rfl

/-! ## Looks -/

/-- Examining the queue touches the probe engine and the service port, and nothing else. -/
theorem examine_frame (q kept : List ProbeRequest) (s : State) : ∃ q' pr w sv,
    examine kept q s = { s with probeQueue := q', probe := pr, waiting := w, service := sv } := by
  induction q generalizing kept s with
  | nil => exact ⟨_, s.probe, _, s.service, rfl⟩
  | cons r rest ih =>
    unfold examine
    split
    · obtain ⟨q', pr, w, sv, h⟩ := ih kept (reportProbe r .cancelled none s)
      exact ⟨q', pr, w, sv, h⟩
    · split
      · exact ih _ s
      · exact ⟨_, _, _, s.service, rfl⟩

/-- A look touches the probe engine and the service port, and nothing else. -/
theorem look_frame (s : State) : ∃ q pr w sv, look s = { s with probeQueue := q, probe := pr, waiting := w, service := sv } := by
  unfold look
  split
  · exact ⟨s.probeQueue, s.probe, s.waiting, s.service, rfl⟩
  · split
    · exact ⟨s.probeQueue, s.probe, _, s.service, rfl⟩
    · exact examine_frame _ _ s

@[simp] theorem chanAt_look (s : State) (c : Chan) : chanAt (look s) c = chanAt s c := by
  obtain ⟨q, pr, w, sv, h⟩ := look_frame s
  rw [h]; rfl

/-- A LINE request touches the probe engine and the service port, and nothing else. -/
theorem requestLine_frame (c : Chan) (s : State) : ∃ q pr w sv,
    requestLine c s = { s with probeQueue := q, probe := pr, waiting := w, service := sv } := by
  unfold requestLine
  simp only
  split
  · exact ⟨s.probeQueue, s.probe, s.waiting, s.service, rfl⟩
  · split
    · obtain ⟨q, pr, w, sv, h⟩ := look_frame { s with probeQueue := s.probeQueue ++ [{ chan := c, pair := false }] }
      exact ⟨q, pr, w, sv, h⟩
    · exact ⟨s.probeQueue, s.probe, s.waiting, _, rfl⟩

/-- Cancelling the probe of a channel touches the probe engine and the service port, and nothing else. -/
theorem cancelProbe_frame (c : Chan) (s : State) : ∃ q pr w sv,
    cancelProbe c s = { s with probeQueue := q, probe := pr, waiting := w, service := sv } := by
  unfold cancelProbe
  split
  · split
    · obtain ⟨q, pr, w, sv, h⟩ := look_frame (reportProbe (Probe.request _) .cancelled none { s with probe := none })
      exact ⟨q, pr, w, sv, h⟩
    · exact ⟨s.probeQueue, s.probe, s.waiting, s.service, rfl⟩
  · exact ⟨s.probeQueue, s.probe, s.waiting, s.service, rfl⟩

/-! ## Switches and uplink marks -/

@[simp] theorem armDetectors_state (cfg : ChanConfig) (t : Nat) (sw : FeedSwitch) : (armDetectors cfg t sw).state = sw.state := rfl
@[simp] theorem armDetectors_switchOn (cfg : ChanConfig) (t : Nat) (sw : FeedSwitch) :
    (armDetectors cfg t sw).switchOn = sw.switchOn := rfl
@[simp] theorem armDetectors_sensed (cfg : ChanConfig) (t : Nat) (sw : FeedSwitch) :
    (armDetectors cfg t sw).sensed = sw.sensed := rfl
@[simp] theorem armDetectors_tripTimer (cfg : ChanConfig) (t : Nat) (sw : FeedSwitch) :
    (armDetectors cfg t sw).tripTimer = if tripLevelMA cfg.tripLevel < sw.sensed then some t else none := rfl
@[simp] theorem armDetectors_ocTimer (cfg : ChanConfig) (t : Nat) (sw : FeedSwitch) :
    (armDetectors cfg t sw).ocTimer = if overcurrentMA < sw.sensed then some t else none := rfl

/-- All that opening a switch for good does. -/
theorem openSwitch_openedFrom (g : Globals) (now : Nat) (sw : FeedSwitch) : OpenedFrom g now sw (openSwitch g now sw) := by
  unfold OpenedFrom openSwitch completeSwitch
  cases h : sw.switchOn with
  | none => rfl
  | some o =>
    cases hc : o.completed <;> by_cases hn : o.completion ≤ now <;> cases ha : o.adapt <;>
      simp [hc, hn, ha, adaptedCode, adaptedByTable]

/-- An open switch stays as it is. -/
theorem openSwitch_of_none {g : Globals} {now : Nat} {sw : FeedSwitch} (h : sw.switchOn = none) : openSwitch g now sw = sw := by
  simp [openSwitch, h]

/-- Receiving a mark adds at most one mark to an exchange and changes nothing else of it. -/
theorem receiveMark_frame (t average : Nat) (e : Exchange) : ∃ ms, receiveMark t average e = { e with marks := e.marks ++ ms } ∧
    (ms = [] ∨ ms = [loadMark e.baseline average] ∧ e.phase = .uplink ∧ e.marks.length < 23) := by
  unfold receiveMark
  split
  · split
    · exact ⟨_, rfl, .inr ⟨rfl, by assumption, by rename_i h; exact h.1⟩⟩
    · exact ⟨[], by simp, .inl rfl⟩
  · exact ⟨[], by simp, .inl rfl⟩

/-! ## Entries to the unpowered states -/

/-- One write of a channel and the service port after another is one write. -/
theorem setChan_service_twice (c : Chan) (x y : Channel) (sv sv' : PortState) (s : State) :
    { setChan c y { setChan c x s with service := sv } with service := sv' } = { setChan c y s with service := sv' } := by
  simp [setChan]

/-- The steps of R95 touch one channel and the service port, and nothing else. -/
theorem settleUnpowered_frame (c : Chan) (own : Option ReportBody) (outcome : TestOutcome) (s : State) : ∃ x sv,
    settleUnpowered c own outcome s = { setChan c x s with service := sv } := by
  have step1 : ∀ s, ∃ sv, reportOwn c own s = { s with service := sv } := fun s => by
    cases own
    · exact ⟨s.service, rfl⟩
    · exact ⟨_, rfl⟩
  have step2 : ∀ s, ∃ x sv, endTest c outcome s = { setChan c x s with service := sv } := fun s => by
    unfold endTest
    split
    · exact ⟨_, _, rfl⟩
    · exact ⟨chanAt s c, s.service, by rw [setChan_chanAt]⟩
  have step3 : ∀ s, ∃ x sv, dropMailbox c s = { setChan c x s with service := sv } := fun s => by
    unfold dropMailbox
    split
    · exact ⟨_, _, rfl⟩
    · exact ⟨chanAt s c, s.service, by rw [setChan_chanAt]⟩
  obtain ⟨sv1, h1⟩ := step1 s
  obtain ⟨x2, sv2, h2⟩ := step2 { s with service := sv1 }
  obtain ⟨x3, sv3, h3⟩ := step3 { setChan c x2 s with service := sv2 }
  have h2' : endTest c outcome { s with service := sv1 } = { setChan c x2 s with service := sv2 } := h2
  unfold settleUnpowered markStale modChan
  rw [h1, h2', h3]
  exact ⟨_, sv3, by rw [setChan_service_twice]; exact setChan_service_twice c x3 _ sv3 sv3 s⟩

/-- A departure touches one channel alone. -/
theorem depart_frame (c : Chan) (s : State) : ∃ x, depart c s = setChan c x s := by
  unfold depart
  split
  · exact ⟨_, rfl⟩
  · exact ⟨chanAt s c, by rw [setChan_chanAt]⟩

/-- An entry to DARK touches one channel, the service port and the probe engine, and nothing else. -/
theorem enterDark_frame (c : Chan) (cause : StateCause) (own : Option ReportBody) (outcome : TestOutcome) (s : State) :
    ∃ x q pr w sv, enterDark c cause own outcome s =
      { setChan c x s with probeQueue := q, probe := pr, waiting := w, service := sv } := by
  obtain ⟨x, h⟩ := depart_frame c s
  unfold enterDark
  obtain ⟨y, sv, h2⟩ := settleUnpowered_frame c own outcome (modChan c (darkResults cause) (depart c s))
  rw [h2, h]
  simp only [modChan, setChan_setChan]
  split
  · obtain ⟨q, pr, w, sv2, h3⟩ := requestLine_frame c { setChan c y s with service := sv }
    exact ⟨y, q, pr, w, sv2, h3⟩
  · exact ⟨y, s.probeQueue, s.probe, s.waiting, sv, rfl⟩

/-- An entry to FAULTED touches one channel and the service port, and nothing else. -/
theorem enterFaulted_frame (c : Chan) (cause : StateCause) (partner : Option Chan) (s : State) : ∃ x sv,
    enterFaulted c cause partner s = { setChan c x s with service := sv } := by
  unfold enterFaulted
  simp only
  obtain ⟨x, h⟩ := depart_frame c s
  obtain ⟨y, sv, h2⟩ := settleUnpowered_frame c
    (some (.fault cause (chanAt s c).life (min lockStrikes ((chanAt s c).strikes + 1)) partner)) .faulted
    (modChan c (fun ch => { ch with life := .faulted, cause := cause, strikes := min lockStrikes ((chanAt s c).strikes + 1) })
      (depart c s))
  refine ⟨y, sv, ?_⟩
  rw [h2, h]
  simp only [modChan, setChan_setChan]

/-- An entry to RETIRED touches one channel and the service port, and nothing else. -/
theorem enterRetired_frame (c : Chan) (s : State) : ∃ x sv, enterRetired c s = { setChan c x s with service := sv } := by
  unfold enterRetired
  obtain ⟨x, h⟩ := depart_frame c s
  obtain ⟨y, sv, h2⟩ := settleUnpowered_frame c none .retired (modChan c (fun ch => { ch with life := .retired }) (depart c s))
  refine ⟨y, sv, ?_⟩
  rw [h2, h]
  simp only [modChan, setChan_setChan]

/-! ## The account -/

/-- A charge touches the frame remainder, the reserve, the three energy tallies and the energy port, and nothing else. -/
theorem charge_frame (c : Chan) (priority : Bool) (e : Nat) (s : State) : ∃ fr rp ta en,
    charge c priority e s = { s with grant := { s.grant with fr := fr }, reserve := rp, tallies := ta, energy := en } ∧
    fr = s.grant.fr - min e s.grant.fr ∧ rp ≤ s.reserve := by
  unfold charge
  simp only
  split
  · exact ⟨_, _, _, _, rfl, rfl, Nat.sub_le _ _⟩
  · exact ⟨_, _, _, s.energy, rfl, rfl, Nat.sub_le _ _⟩

/-- The latching of the grant touches the grant and the energy port, and nothing else. -/
theorem latchGrant_frame (s : State) : ∃ g en, latchGrant s = { s with grant := g, energy := en } := by
  unfold latchGrant
  simp only
  split
  · exact ⟨_, s.energy, rfl⟩
  · split
    · exact ⟨_, s.energy, rfl⟩
    · split
      · exact ⟨_, s.energy, rfl⟩
      · exact ⟨_, _, rfl⟩

/-- The bus evaluation touches the bus-low state and its tally and the energy port, and nothing else. -/
theorem evaluateBus_frame (s : State) : ∃ low n en,
    evaluateBus s = { s with busLow := low, tallies := { s.tallies with busLow := n }, energy := en } := by
  unfold evaluateBus
  simp only
  split
  · exact ⟨_, _, _, rfl⟩
  · split
    · exact ⟨_, _, _, rfl⟩
    · exact ⟨_, _, s.energy, rfl⟩

/-! ## Edits -/

/-- An edit applied touches the roster, the layout, the global settings, the hold set, the floor, the alarm level, the
channels and its poster's queue, and nothing else. -/
theorem applyEdit_frame (s : State) (e : Edit) : ∃ ro la gl st df fl al cs sv en,
    applyEdit s e = { s with roster := ro, layout := la, globals := gl, holdStandard := st, holdDeferrable := df, floor := fl,
                             alarmLevel := al, channels := cs, service := sv, energy := en } := by
  have rej : ∀ r b c, ∃ sv en, rejectEdit e r b c s = { s with service := sv, energy := en } := by
    intro r b c
    unfold rejectEdit report modPort
    split
    · exact ⟨_, s.energy, rfl⟩
    · exact ⟨s.service, _, rfl⟩
  have keep : ∀ r b c, ∃ ro la gl st df fl al cs sv en, rejectEdit e r b c s =
      { s with roster := ro, layout := la, globals := gl, holdStandard := st, holdDeferrable := df, floor := fl,
               alarmLevel := al, channels := cs, service := sv, energy := en } := by
    intro r b c
    obtain ⟨sv, en, h⟩ := rej r b c
    exact ⟨_, _, _, _, _, _, _, _, _, _, h⟩
  unfold applyEdit
  split
  · exact ⟨_, _, _, _, _, _, _, _, _, _, rfl⟩
  · simp only
    split
    · exact keep _ _ _
    · split
      · exact keep _ _ _
      · exact ⟨_, _, _, _, _, _, _, _, _, _, rfl⟩
  · simp only
    split
    · exact ⟨_, _, _, _, _, _, _, _, _, _, rfl⟩
    · exact keep _ _ _
  all_goals exact ⟨_, _, _, _, _, _, _, _, _, _, rfl⟩

/-! ## Port commands -/

/-- A port command acts where its last word or byte can arrive, and else leaves the state. -/
theorem atPort_of_due {p : Port} {cmd : Cmd} {args : List Word} {s : State} (h : commandDue p cmd args s = true)
    (act : State → State) : atPort p cmd args act s = act (commandTaken p s) := by simp [atPort, h]

theorem atPort_of_not_due {p : Port} {cmd : Cmd} {args : List Word} {s : State} (h : commandDue p cmd args s = false)
    (act : State → State) : atPort p cmd args act s = s := by simp [atPort, h]

/-- A word that passes at the service port touches the transaction and SDO, and nothing else. -/
theorem passWord_frame (t : ServiceTransaction) (f : ServiceTransaction → ServiceTransaction) (s : State) : ∃ tr sd,
    passWord t f s = { s with transaction := tr, sdo := sd } := ⟨_, _, rfl⟩

/-- Taking the last word of a service-port command touches the transaction and SDO, and nothing else. -/
theorem commandTaken_service_frame (s : State) : ∃ tr sd, commandTaken .service s = { s with transaction := tr, sdo := sd } := by
  unfold commandTaken
  simp only
  split
  · exact ⟨_, _, rfl⟩
  · exact ⟨s.transaction, s.sdo, rfl⟩

/-- A channel command of the service port, once its right holds, looks at its channel number alone before its own checks. -/
theorem channelCommand_of_chan {p : Port} {cmd : Cmd} {arg : Word} {c : Chan} (hp : cmd.permitted p = true)
    (hc : argChan arg = some c) (s : State) (act : Chan → State) : channelCommand p cmd arg s act = act c := by
  simp [channelCommand, hp, hc]

/-- A channel number in range names its channel. -/
theorem chanOf_val (c : Chan) : chanOf c.val = some c := by simp [chanOf]

/-- A number of 24 or more names no channel. -/
theorem chanOf_none {n : Nat} (h : 24 ≤ n) : chanOf n = none := by simp [chanOf]; omega

end Sys2Proof.Machine
end

