-- ==== Sys2Proof/WellFormed.lean ====
section
/-! DEFINITION. When a command's operands are ones its row can have. The ranges of readings and instants are in the types
of Syntax.lean; an ill-formed argument word is well formed here, since its port answers it with BAD_ARGUMENT. -/

namespace Sys2Proof

/-- A row that names its code by what the code is: UNKNOWN_COMMAND carries a code that names no command (R159), and
ENERGY_COMMAND_BYTE one of a command that has argument words (R163). -/
def Instr.wf : Instr → Bool
  | .unknownCommand _ code => (Machine.Cmd.ofCode code).isNone
  | .energyCommandByte b => (match Machine.Cmd.ofCode b with | some c => decide (0 < c.argWords) | none => false)
  | _ => true

end Sys2Proof
end

