-- ==== Sys2Proof/Tests/Slice0.lean ====
section
/-! SUPPORT. Tests of the model on small states: the checks of WellFormed, the manual's worked examples (each named in its
docstring; the expected values are the manual's), and for every statement with hypotheses a state that meets them. -/

namespace Sys2Proof.Tests

open Sys2Proof.Machine

-- one theorem at a time: each thread that waits for the kernel holds a stack of its own
set_option Elab.async false

/-! ## Small states -/

/-- The block running, with nothing on it. -/
def live : State := { State.reset with inReset := false }

/-- A channel in a state of its life, all else as after reset. -/
def chanIn (l : Life) : Channel := { Channel.reset with life := l }

/-- The running block with one channel as given. -/
def with1 (c : Chan) (x : Channel) : State := setChan c x live

/-- The state a step answers. -/
def after (i : Instr) (s : State) : State :=
  match exec i s with
  | .next t => t
  | .fault _ => s
  | .refused _ => s

/-- A word of four bytes, the most significant first. -/
def word (a b c d : Nat) : Word := BitVec.ofNat 32 (((a * 256 + b) * 256 + c) * 256 + d)

/-- Argument words for a command, each in range. -/
def someArgs : Cmd → List Word
  | .post => [word 7 0 0x10 0x68, word 0 0 0x05 0xDC]
  | .read | .ack | .mask | .watermark | .vote => [word 0 0 0 1]
  | .test => [word 5 15 0 0]
  | .send => [word 5 8 15 0]
  | .seek | .probe | .wake | .retire | .release | .clearFault | .abortTest | .deposit => [word 0 0 0 0]
  | .setGrant => [word 0 0x0F 0x42 0x40]
  | .nop | .status | .take | .resetPort | .cancelEdits | .drain => []

/-- The state `s` with all but the last word of a command taken at the service port. -/
def atService (cmd : Cmd) (args : List Word) (s : State) : State :=
  { s with transaction := some { words := if args.isEmpty then [] else (cmd.code ++ (0 : BitVec 24)) :: args.dropLast,
                                 done := false, outgoing := [0xFF000000] } }

/-- The state `s` with all but the last byte of a command taken at the energy port. -/
def atEnergy (cmd : Cmd) (args : List Word) (s : State) : State :=
  { s with
    bus := .write 1
    assembly := { cmd := if args.isEmpty then none else some cmd.code, words := args.dropLast,
                  part := (args.getLast?.toList.flatMap bytesOf).dropLast, lone := false } }

/-- A switch-on that began at 1000 ms with ramp code 3, its chop periods 10 ms long. -/
def switchOnAt1000 : SwitchOn :=
  { rampEnd := 1006, completion := 1011, completed := false, peak := 0, adapt := true, chopStart := 1000, chopLength := 10,
    tripSeen := false }

/-- A switch in a state with that switch-on. -/
def switchIn (st : SwitchState) (o : SwitchOn) : FeedSwitch := { FeedSwitch.reset with state := st, switchOn := some o }

/-! ## The checks of WellFormed -/

/-- 00h names NOP, so it is no unknown command; FFh names none. -/
theorem test_wf_unknownCommand :
    Instr.wf (.unknownCommand .service 0x00) = false ∧ Instr.wf (.unknownCommand .service 0xFF) = true := by decide +kernel

/-- TAKE has no argument words and 55h is no code, so neither is an ENERGY_COMMAND_BYTE; SET_GRANT's code is. -/
theorem test_wf_energyCommandByte :
    Instr.wf (.energyCommandByte 0x04) = false ∧ Instr.wf (.energyCommandByte 0x55) = false ∧
    Instr.wf (.energyCommandByte 0x20) = true := by decide +kernel

/-! ## Worked examples of the manual -/

/-- Chapter 3.1, "two samples": 133 mA and 134 mA at 48.37 V. -/
theorem test_two_samples :
    let m := addSample 4837 133 Meter.reset
    (m.acc, m.residue) = (6433, 21) ∧ ((addSample 4837 134 m).acc, (addSample 4837 134 m).residue) = (12914, 79) := by
  decide +kernel

/-- Chapter 3.2, "folds", the first channel. -/
theorem test_fold :
    let m := foldMeter { Meter.reset with sub := 950, totalMJ := 1207433, acc := 12914, residue := 79 }
    (m.totalMJ, m.sub, m.acc, m.residue) = (1207446, 864, 0, 79) := by decide +kernel

/-- Chapter 3.2, "folds", the saturated channel. -/
theorem test_fold_saturates :
    let m := foldMeter { Meter.reset with sub := 700, totalMJ := 4294967290, acc := 12500 }
    (m.totalMJ, m.sub) = (4294967295, 200) := by decide +kernel

/-- Chapter 3.4, "charging against the reserve": channel 6 draws 230,000 µJ of it and RESERVE_LOW is entered. -/
theorem test_charge_reserve :
    let s := { live with reserve := 2150000, alarmLevel := 2000, grant := { live.grant with fr := 80000 } }
    let t := charge 6 true 310000 s
    (t.grant.fr, t.reserve, t.tallies.spent, t.tallies.drawn, t.tallies.overdraw) = (0, 1920000, 80000, 230000, 0) ∧
    t.energy.queue.map Report.body = [.reserveLow 1920000 2000] := by decide +kernel

/-- Chapter 3.4, the DEPOSIT of 100 mJ that follows: RESERVE_OK, and the reply carries 2,020,000. -/
theorem test_deposit :
    let t := after (.deposit .energy (word 0 0 0 100))
      (atEnergy .deposit [word 0 0 0 100] { live with reserve := 1920000, alarmLevel := 2000 })
    t.reserve = 2020000 ∧ t.energy.queue.map Report.body = [.reserveOk 2020000 2000] ∧
    t.energy.reply.map Reply.words = some [2020000] := by decide +kernel

/-- Chapter 3.3, "the life of a grant": frame 43 latches nothing and enters GRANT_EXPIRED (1,200 mJ); frame 45 latches 800. -/
theorem test_grant_life :
    let g := fun life unlimited reported pending =>
      latchGrant { live with grant := { pending := pending, unlimited := unlimited, life := life, expiryReported := reported,
                                        latched := 900, fr := 5 } }
    (g 2 false false 1200).grant.fr = 1200000 ∧ (g 2 false false 1200).grant.life = 1 ∧
    (g 0 false false 1200).grant.fr = 0 ∧ (g 0 false false 1200).energy.queue.map Report.body = [.grantExpired 1200] ∧
    (g 0 false true 1200).energy.queue = [] ∧ (g 0 true false 800).grant.fr = 800000 := by decide +kernel

/-- The FED channel of chapter 2.3's example: a class and a forecast. -/
def fedWith (cls : ChanClass) (forecast : Nat) : Channel :=
  { chanIn .fed with cfg := { ChanConfig.default with cls := cls }, forecast := forecast }

/-- Chapter 2.3, "one admission in figures": the list is 9 (priority), 5, 14, and 2 is shed. -/
theorem test_admission_in_figures :
    let row : Row := { feed := true, exchange := true, members := [5, 9, 14, 2] }
    let s := setChan 5 (fedWith .standard 250000) <| setChan 9 (fedWith .emergency 300000) <|
      setChan 14 (fedWith .deferrable 100000) <| setChan 2 (fedWith .standard 200000)
        { live with feedOn := true, rotor := 4, grant := { live.grant with fr := 700000 } }
    admission s row = { committed := 650000, shed := [2],
                        entries := [⟨9, true⟩, ⟨5, false⟩, ⟨14, false⟩] } := by decide +kernel

/-- R33, R39: with the priority commitment already above the frame remainder, a member of forecast 0 is admitted and one of
1 µJ is shed. -/
theorem test_zero_forecast_fits :
    let row : Row := { feed := true, exchange := true, members := [9, 14, 5] }
    let s := setChan 5 (fedWith .standard 0) <| setChan 9 (fedWith .emergency 300000) <| setChan 14 (fedWith .standard 1)
      { live with feedOn := true, grant := { live.grant with fr := 200000 } }
    (admission s row).entries = [⟨9, true⟩, ⟨5, false⟩] ∧ (admission s row).shed = [14] := by decide +kernel

/-- Chapter 4.3, "a ramp that adapts": switch-ons A, B, C and E. -/
theorem test_ramp_adapts :
    let g : Globals := { chopCode := 1, target := 300, gain := 2 }
    adaptedCode g 340 3 = 5 ∧ adaptedCode g 120 5 = 4 ∧ adaptedCode g 210 4 = 4 ∧ adaptedCode g 610 4 = 6 := by decide

/-- Chapter 6.2, "downlink and uplink checks": the first six remainders of KEEP with sequence 1. -/
theorem test_check_remainders :
    checkOf [false, false, true] = 0b0011 ∧ checkOf [false, false, true, false] = 0b0110 ∧
    checkOf [false, false, true, false, false] = 0b1100 ∧ checkOf [false, false, true, false, false, false] = 0b1011 := by
  decide +kernel

/-- Chapter 10.3, "a grant sent across three writes": the fourth argument byte executes SET_GRANT(1,500 mJ, life 4). -/
theorem test_grant_fourth_byte :
    let t := after (.energyArgumentByte 0xDC)
      { live with bus := .write 1, assembly := { cmd := some 0x20, words := [], part := [4, 0, 5], lone := false } }
    t.grant.pending = 1500 ∧ t.grant.life = 4 ∧ t.grant.unlimited = false ∧ t.assembly = .reset := by decide +kernel

/-- The same example: the one-byte STATUS write discards SET_GRANT and its two bytes and leaves the status word. -/
theorem test_status_discards :
    let s := { live with bus := .write 0, assembly := { cmd := some 0x20, words := [], part := [4, 0], lone := false } }
    let t := after .energyStopCondition (after (.energyArgumentByte 0x01) s)
    t.assembly = .reset ∧ t.grant = live.grant ∧ t.energy.reply.map Reply.code = some 0x01 := by decide +kernel

/-- Chapter 10.5, "reading one channel record": transaction 2 takes the eight words and the pointer moves to channel 6. -/
theorem test_read_channel :
    let s := { live with service := { PortState.reset with pointer := { Pointer.reset with table := .channel, index := 5 } } }
    let t := after (.read .service (word 0 0 0 8)) (atService .read [word 0 0 0 8] s)
    t.service.pointer.index = 6 ∧ t.service.pointer.offset = 0 ∧
    t.service.reply.map (fun r => r.words.length) = some 8 := by decide +kernel

/-- Chapter 9.3, "two ports posting": a CLASS_HOLD that names EMERGENCY is refused, FLOORS(4400, 1500) takes tag 58. -/
theorem test_post :
    let s := { live with energy := { PortState.reset with tagCounter := 58 } }
    let hold := [word 6 0 0 3, word 0 0 0 0]
    let floors := [word 7 0 0x11 0x30, word 0 0 0x05 0xDC]
    (after (.post .energy (word 6 0 0 3) (word 0 0 0 0)) (atEnergy .post hold s)).energy.reply.map Reply.outcome =
      some .badArgument ∧
    (after (.post .energy (word 7 0 0x11 0x30) (word 0 0 0x05 0xDC)) (atEnergy .post floors s)).edits =
      [{ poster := .energy, tag := 58, content := .floors 4400 1500 }] := by decide +kernel

/-- R19, R67: a member admitted with its switch OPEN is switched on at the slot start; its ramp takes 6 ms with code 3. -/
theorem test_slot_start_switches_on :
    let s := { with1 9 (chanIn .fed) with
      feedOn := true, phase := .opened, ms := 1000, grant := { live.grant with fr := 2000000 }
      roster := Vector.replicate 32 { feed := true, exchange := true, members := [9] } }
    let x := chanAt (after .slotStart s) 9
    x.sw.state = .ramping ∧ x.sw.switchOn.map SwitchOn.rampEnd = some 1006 ∧ x.placement = none ∧ x.meter.sampling = true := by
  decide +kernel

/-- R73, R76: a trip at the instant of the chop period start, taken first, has no chop-off time, so the reclosure finds the
current still above the level and the timer runs from it; a trip before it opens the line and the reclosure finds it clear. -/
theorem test_reclosure_arms :
    let s := fun since => { with1 5 { chanIn .fed with
      sw := { switchIn .on switchOnAt1000 with tripTimer := some since, sensed := 400 } } with ms := 1009 }
    let t := fun since => (chanAt (after (.chopPeriodStart 5) (after (.tripAssert 5) (s since))) 5).sw
    (t 1009000).state = .on ∧ (t 1009000).tripTimer = some 1010000 ∧ (t 1009000).tripCount = 1 ∧
    (t 1008900).state = .on ∧ (t 1008900).tripTimer = none := by decide +kernel

/-- Chapter 6, "a QUERY answered": the answer began at 45.0 ms, so its first mark, a load mark, closes with the millisecond
that ends at 47 ms; at 46 ms none has closed. -/
theorem test_mark_received :
    let e : Exchange := { cmd := .query, arg := 0, seq := true, phase := .uplink, start := 10, downlink := [], baseline := 96,
                          answerStart := some 45000, marks := [] }
    let s := fun ms => { with1 8 { chanIn .fed with exchange := some e } with ms := ms }
    let t := fun ms => (chanAt (after (.sampleEvent 4800 (Vector.replicate 24 ⟨106, 106⟩)) (s ms)) 8).exchange
    (t 45).map Exchange.marks = some [] ∧ (t 46).map Exchange.marks = some [true] := by decide +kernel

/-- R107, chapter 12.1: the first downlink mark is a dip and the second full; a mark in chop-off time has no output. -/
theorem test_feed_output :
    let x := fun st => startExchange 1000 { chanIn .fed with sw := switchIn st switchOnAt1000 }
    switchOutput 1000000 (x .on) = .dip ∧ switchOutput 1001999 (x .on) = .dip ∧ switchOutput 1002000 (x .on) = .full ∧
    switchOutput 1000000 (x .chopOff) = .off ∧ switchOutput 1032000 (x .on) = .full := by decide +kernel

/-- R125: a PAIR probe of channel 4 has the bias source on FEED4 and ties FEED5 to RTN; FEED6 stays its switch's. -/
theorem test_probe_outputs :
    let s := { live with probe := some { chan := 4, partner := some 5, start := 0, stop := 30 } }
    feedOutput 0 s 4 = .bias ∧ feedOutput 0 s 5 = .sense ∧ feedOutput 0 s 6 = .off := by decide +kernel

/-- R108: half a millisecond into the window, a current that rose inside it begins the answer; one that stood at B + 10 mA
since the downlink does not. -/
theorem test_answer_rises_in_window :
    let e : Exchange := { cmd := .keep, arg := 0, seq := false, phase := .window, start := 10, downlink := [], baseline := 96,
                          answerStart := none, marks := [] }
    let s := { with1 8 { chanIn .fed with exchange := some e } with ms := 42 }
    let t := fun before => ((chanAt (after (.answerStart 8 500 { before := before, held := 106 }) s) 8).exchange).map Exchange.phase
    t 105 = some .uplink ∧ t 106 = some .window := by decide +kernel

/-- R3: with the slot's L milliseconds passed, a crossing at the boundary may come before the slot end, and one after it waits
for the slot end and the slot start. -/
theorem test_boundary_waits :
    let s := { with1 8 { chanIn .fed with sw := FeedSwitch.reset } with slotTime := 100 }
    let t := fun i s => (chanAt (after (.detectorLevelCrossing 8 300 i) s) 8).sw.sensed
    t 0 s = 300 ∧ t 1 s = 0 ∧ t 1 (after .slotEnd s) = 0 ∧ t 1 (after .slotStart (after .slotEnd s)) = 300 := by decide +kernel

/-- R126: 512 is SIGNATURE and 1108 is OPEN; R96: 20 is SHORT and faults the channel. -/
theorem test_line_outcomes :
    lineOutcome 512 = .signature ∧ lineOutcome 1108 = .openLine ∧ lineOutcome 20 = .short ∧ lineOutcome 700 = .foreign := by
  decide

/-- R21, R24: the energy port's VOTE(off) opens the switch, and VOTE_LOST is latched at the service port. -/
theorem test_vote_off :
    let s := { with1 9 { chanIn .fed with sw := switchIn .on switchOnAt1000 } with
      feedOn := true, service := { PortState.reset with vote := true }, energy := { PortState.reset with vote := true } }
    let t := after (.vote .energy 0) (atEnergy .vote [0] s)
    t.feedOn = false ∧ (chanAt t 9).sw.state = .opened ∧ t.service.voteLostCause = true ∧ t.energy.voteLostCause = false ∧
    (chanAt t 9).life = .fed := by decide +kernel

/-- R162: with both straps low the port answers 68h and 69h, and not 6Ah. -/
theorem test_energy_address :
    (after (.energyAddressByte 0x68) live).bus = .write 0 ∧ (after (.energyAddressByte 0x69) live).bus = .read ∧
    (after (.energyAddressByte 0x6A) live).bus = .idle := by decide +kernel

/-- Step runs the front command with the rest of the queue; on an empty queue the block idles. -/
theorem test_step :
    step { State.reset with pending := [.resetRelease true false, .serviceSelect] } =
      exec (.resetRelease true false) { State.reset with pending := [.serviceSelect] } ∧ step State.reset = .next State.reset :=
  ⟨rfl, rfl⟩

/-- No word spells a command by the table's bits. -/
theorem test_decode : decodeTableWord 32 0 = none := rfl

/-! ## Every statement's hypotheses are met

For each statement with hypotheses, states and operands that meet them, clause by clause, at the ends of the ranges. -/

/-- The running block 1000 ms after the release. -/
def at1000 : State := { live with ms := 1000 }

/-- Channel 5 at 1000 ms. -/
def five (x : Channel) : State := setChan 5 x at1000

/-- RecordEntryFollowsTable, StepRunsFrontCommand, DeviceResetHolds: queues one short of full and full; a queue with a command
and one without; reset held and released. -/
theorem met_queues_and_reset :
    let r : Report := { frame := 0, slot := 0, afterLoss := false, chan := none, body := .grantExpired 1 }
    (List.replicate 47 r).length < 48 ∧ 48 ≤ (List.replicate 48 r).length ∧ (List.replicate 15 r).length < 16 ∧
    16 ≤ (List.replicate 16 r).length ∧ { live with pending := [.slotEnd] }.pending = .slotEnd :: [] ∧ live.pending = [] ∧
    State.reset.inReset = true ∧ Instr.slotEnd ≠ .deviceReset ∧ (∀ a b, Instr.slotEnd ≠ .resetRelease a b) ∧
    live.inReset = false := by
  refine ⟨?_, ?_, ?_, ?_, rfl, rfl, rfl, ?_, ?_, rfl⟩ <;> decide

/-- Every statement that asks for `commandDue` (SetGrantSetsPending and DrainEmptiesReserve ask for nothing else): every command of
the command set can arrive at each port, with argument words in range. -/
theorem met_commandDue :
    ∀ cmd ∈ Cmd.all, (someArgs cmd).length = cmd.argWords ∧
      commandDue .service cmd (someArgs cmd) (atService cmd (someArgs cmd) live) = true ∧
      commandDue .energy cmd (someArgs cmd) (atEnergy cmd (someArgs cmd) live) = true := by decide +kernel

/-- PortPlumbing: a transaction in progress; a write in progress with no lone STATUS code. -/
theorem met_portPlumbing :
    (atService .nop [] live).transaction = some { words := [], done := false, outgoing := [0xFF000000] } ∧
    (atEnergy .nop [] live).bus = .write 1 ∧ (atEnergy .nop [] live).assembly.lone = false := ⟨rfl, rfl, rfl⟩

/-- UnpoweredEntries: a channel other than the one that enters. -/
theorem met_unpoweredEntries : (6 : Chan) ≠ 5 := by decide

/-- LookServesOldest: an engine BUSY with a PAIR probe; IDLE with an empty queue; a serviceable entry behind a cancelled one (channel 3, FED) and
a waiting one (channel 2's PAIR with channel 3); none serviceable; a request queued, not queued, and not queued at a full
queue. -/
theorem met_lookServesOldest :
    let s := { with1 3 (chanIn .fed) with probeQueue := [⟨3, false⟩, ⟨2, true⟩, ⟨7, false⟩, ⟨8, false⟩] }
    let full : List ProbeRequest :=
      (allChans.map fun c => { chan := c, pair := true }) ++ (allChans.take 8).map fun c => { chan := c, pair := false }
    { live with probe := some { chan := 1, partner := some 0, start := 0, stop := 30 } }.probe ≠ none ∧ (0 : Chan) ≠ 1 ∧
    live.probe = none ∧ live.probeQueue = [] ∧ s.probe = none ∧
    s.probeQueue = [⟨3, false⟩, ⟨2, true⟩] ++ ⟨7, false⟩ :: [⟨8, false⟩] ∧ (chanAt s 3).life ≠ .dark ∧
    (chanAt s 2).life = .dark ∧ powered (chanAt s (partnerOf 2)).life = true ∧ (chanAt s 7).life = .dark ∧
    full.length = 32 ∧ (⟨20, false⟩ : ProbeRequest) ∉ full ∧ (⟨7, false⟩ : ProbeRequest) ∈ full ∧
    (⟨20, false⟩ : ProbeRequest) ∉ s.probeQueue ∧ s.probeQueue.length < 32 := by decide +kernel

/-- EditsApplyByKind: a row with a member, a row of three, a full row; a switch RAMPING with a switch-on, one OPEN and one in
CHOP_OFF. -/
theorem met_editsApplyByKind :
    let row := fun ms => { live with roster := Vector.replicate 32 { feed := true, exchange := true, members := ms } }
    (1 : Chan) ∈ (rowAt (row [1]) 0).members ∧ (2 : Chan) ∉ (rowAt (row [1, 3, 4]) 0).members ∧
    (rowAt (row [1, 3, 4]) 0).members.length < 4 ∧ 4 ≤ (rowAt (row [1, 3, 4, 5]) 0).members.length ∧
    (2 : Chan) ∉ (rowAt (row [1, 3, 4, 5]) 0).members ∧
    (switchIn .ramping switchOnAt1000).switchOn = some switchOnAt1000 ∧ (switchIn .ramping switchOnAt1000).state = .ramping ∧
    FeedSwitch.reset.switchOn = none ∧ FeedSwitch.reset.state = .opened ∧ (switchIn .chopOff switchOnAt1000).state = .chopOff := by
  decide +kernel

/-- ChargeConservesEnergy: tallies that stay within a word; a charge that crosses the alarm level and one that does not. -/
theorem met_chargeConservesEnergy :
    let s := { live with reserve := 2150000, alarmLevel := 2000, grant := { live.grant with fr := 80000 } }
    s.tallies.spent + 4294967295 ≤ 4294967295 ∧ s.alarmLevel * 1000 ≤ s.reserve ∧
    (charge 6 true 310000 s).reserve < s.alarmLevel * 1000 ∧ ¬ (charge 6 false 310000 s).reserve < s.alarmLevel * 1000 := by
  decide +kernel

/-- SampleArithmeticIsExact: the largest readings and the largest residue. -/
theorem met_sampleArithmeticIsExact :
    (6000 : Nat) ≤ 6000 ∧ (1023 : Nat) ≤ 1023 ∧ { Meter.reset with residue := 99 }.residue < 100 := by decide

/-- A FED channel sampling with its switch closed, its switch-on completed before 1000 ms, one low reading short of LOST. -/
def lowFive : State :=
  five { chanIn .fed with
    meter := { Meter.reset with sampling := true }
    sw := { switchIn .on { switchOnAt1000 with completion := 1000, completed := true } with closedMs := true, openLoad := 39 } }

/-- SampleEventReadsEveryChannel, EnergyIsNeverLost, PortStateIsPrivate and PolicyFixedWithinFrame: a sample event taken with a
channel sampling whose reading qualifies, and the other channels not sampling. -/
theorem met_sampleEvent :
    lowFive.inReset = false ∧ sampleReady lowFive = true ∧ (chanAt lowFive 5).meter.sampling = true ∧
    (chanAt lowFive 6).meter.sampling = false ∧ (chanAt lowFive 5).life = .fed ∧ (chanAt lowFive 5).sw.closedMs = true ∧
    (chanAt lowFive 5).exchange = none ∧ (chanAt lowFive 5).exchangeMs = false ∧
    (chanAt (after (.sampleEvent 4800 (Vector.replicate 24 ⟨4, 0⟩)) lowFive) 5).lostDue = true ∧
    (chanAt (after (.sampleEvent 4800 (Vector.replicate 24 ⟨5, 0⟩)) lowFive) 5).lostDue = false ∧
    (chanAt (after (.sampleEvent 4800 (Vector.replicate 24 ⟨4, 0⟩)) lowFive) 5).meter.totalMJ < 4294967295 ∧
    exec (.sampleEvent 4800 (Vector.replicate 24 ⟨4, 0⟩)) lowFive =
      .next (after (.sampleEvent 4800 (Vector.replicate 24 ⟨4, 0⟩)) lowFive) ∧
    commandPort (.sampleEvent 4800 (Vector.replicate 24 ⟨4, 0⟩)) = none := by
  refine ⟨rfl, ?_, ?_, ?_, ?_, ?_, ?_, ?_, ?_, ?_, ?_, rfl, rfl⟩ <;> decide +kernel

/-- Channel 5 in the uplink of an exchange whose answer began at 1001.5 ms, with marks received. -/
def exFiveAt (ms : Nat) (marks : List Bool) : State :=
  { five { chanIn .fed with
      exchange := some { cmd := .keep, arg := 0, seq := false, phase := .uplink, start := 960, downlink := [], baseline := 100,
                         answerStart := some 1001500, marks := marks } } with ms := ms }

/-- SampleEventReadsEveryChannel, its clauses of the marks: a mark that has closed, one still to close, and 23 received. -/
theorem met_marks :
    let e := fun ms => (chanAt (exFiveAt 1003 ms) 5).exchange
    (e []).map Exchange.phase = some .uplink ∧ (e []).bind Exchange.answerStart = some 1001500 ∧
    sampleReady (exFiveAt 1003 []) = true ∧ 1001500 + 2000 * (0 + 1) ≤ us (1003 + 1) ∧ us (1002 + 1) < 1001500 + 2000 * (0 + 1) ∧
    (List.replicate 22 true).length < 23 ∧ 23 ≤ (List.replicate 23 true).length := by decide +kernel

/-- The slot of a frame's slot `k` at its end, channel 5 admitted with 1000 µJ in its accumulator. -/
def endOf (k : Nat) : State :=
  { five { chanIn .fed with meter := { Meter.reset with acc := 1000 } } with
    slotTime := 100, slotIndex := k, admitted := [⟨5, false⟩] }

/-- SlotEndClosesTheSlot: a slot end inside a frame and the last one, the list without repeats, tallies with room. -/
theorem met_slotEnd :
    (endOf 0).inReset = false ∧ slotEndReady (endOf 0) = true ∧ slotEndReady (endOf 23) = true ∧
    ((endOf 0).admitted.map Entry.chan).Nodup ∧
    (endOf 0).tallies.spent + ((endOf 0).admitted.map fun e => (chanAt (endOf 0) e.chan).meter.acc).sum ≤ 4294967295 ∧
    (endOf 0).slotIndex + 1 ≠ (endOf 0).layout.slots ∧ (endOf 23).slotIndex + 1 = (endOf 23).layout.slots ∧
    isAdmitted (endOf 0) 5 = true ∧ isAdmitted (endOf 0) 6 = false := by decide +kernel

/-- A test of three frames. -/
def testOf (ph : TestPhase) (left : Nat) : TestContext :=
  { phase := ph, duration := 3, remaining := left, bandBefore := some 12, aborted := false }

/-- A frame opening due, channel 5 testing with `left` frames left, and the grant as given. -/
def openingOf (left : Nat) (g : Grant) : State :=
  { five { chanIn .testing with test := some (testOf .running left) } with phase := .ended, slotIndex := 23, grant := g }

/-- FrameOpeningDoesItsParts: each life of the grant, and a test with 2, 1 and no frames to count. -/
theorem met_frameOpening :
    let s := openingOf 1 { live.grant with life := 1 }
    s.inReset = false ∧ s.phase = .ended ∧ s.slotIndex + 1 = s.layout.slots ∧ s.edits = [] ∧
    (openingOf 2 { live.grant with unlimited := true }).grant.unlimited = true ∧ s.grant.unlimited = false ∧ 0 < s.grant.life ∧
    (openingOf 2 { live.grant with expiryReported := false }).grant.life = 0 ∧
    (chanAt s 5).test = some (testOf .running 1) ∧ (chanAt (openingOf 2 live.grant) 5).test = some (testOf .running 2) ∧
    (chanAt s 6).test = none := by decide +kernel

/-- The start of slot 0, with channels 5 and 9 on the row, channel 9 EMERGENCY and already on, channel 5 too dear. -/
def startOf : State :=
  { setChan 9 { fedWith .emergency 300000 with sw := switchIn .on { switchOnAt1000 with rampEnd := 906, completion := 911 } }
      (five (fedWith .standard 2000000)) with
    phase := .opened, feedOn := true
    roster := Vector.replicate 32 { feed := true, exchange := true, members := [5, 9] } }

/-- SlotStartActs, AdmissionOrder, BudgetTestIsFirstFit and PriorityMemberIsAdmitted: a slot start due, the members distinct, one
admitted by priority with its switch on, one shed, a rotor in range, and the feed OFF, a QUIET row and an empty row beside it. -/
theorem met_slotStart :
    let row := rowAt startOf (Fin.ofNat 32 (startOf.layout.origin + 0))
    startOf.inReset = false ∧ slotStartReady startOf = true ∧ row.members.Nodup ∧ startOf.rotor < 24 ∧
    (admission startOf row).entries = [⟨9, true⟩] ∧ (admission startOf row).shed = [5] ∧
    sortedMembers startOf row = [] ++ 9 :: [5] ∧ sortedMembers startOf row = [9] ++ 5 :: [] ∧
    startOf.feedOn = true ∧ row.feed = true ∧ (9 : Chan) ∈ row.members ∧ (chanAt startOf 9).life = .fed ∧
    (chanAt startOf 9).cfg.cls = .emergency ∧ startOf.probe = none ∧ row.exchange = true ∧
    (chanAt startOf 9).sw.switchOn ≠ none ∧ (chanAt startOf 5).sw.switchOn = none ∧ live.feedOn = false ∧
    (rowAt live 0).feed = false ∧ (rowAt live 0).members = [] := by decide +kernel

/-- Channel 5 FED at `ms` with a switch in a state. -/
def swAt (ms : Nat) (st : SwitchState) (o : SwitchOn) : State :=
  { five { chanIn .fed with sw := switchIn st o } with ms := ms }

/-- SwitchTimingSteps: a completion due, a ramp end due at the close of the millisecond, a switch in CHOP_OFF, and a chop period
start with the switch ON and in CHOP_OFF. -/
theorem met_switchTimingSteps :
    let o := { switchOnAt1000 with chopStart := 1010 }
    (swAt 1011 .on o).inReset = false ∧ (chanAt (swAt 1011 .on o) 5).sw.switchOn = some o ∧ o.completed = false ∧
    o.completion ≤ 1011 ∧ timely (us o.completion) (swAt 1011 .on o) = true ∧
    timely (us 1006) (swAt 1005 .ramping switchOnAt1000) = true ∧
    (chanAt (swAt 1005 .ramping switchOnAt1000) 5).sw.state = .ramping ∧
    timely (us (1000 + 10)) (swAt 1009 .on switchOnAt1000) = true ∧
    timely (us (1000 + 10)) (swAt 1010 .chopOff switchOnAt1000) = true := by decide +kernel

/-- Channel 5 with its switch ON, a trip count and timers that assert at the end of the millisecond that follows 1005 ms. -/
def tripFive (l : Life) (count : Nat) : State :=
  { five { chanIn l with
      sw := { switchIn .on switchOnAt1000 with tripCount := count, tripTimer := some 1005000, ocTimer := some 1005900 } } with
    ms := 1005 }

/-- DetectorsAct: a crossing at a closed switch and an open one, a trip that is not the eighth and one that is, an overcurrent,
and LOST due in FED and in RESUMING. -/
theorem met_detectorsAct :
    (tripFive .fed 6).inReset = false ∧ (chanAt (tripFive .fed 6) 5).sw.state = .on ∧
    timely (us 1005 + (1000 : Fin 1001).val) (tripFive .fed 6) = true ∧ (chanAt live 5).sw.state = .opened ∧
    timely (us 0 + (0 : Fin 1001).val) live = true ∧ (chanAt (tripFive .fed 6) 5).sw.switchOn = some switchOnAt1000 ∧
    (chanAt (tripFive .fed 6) 5).sw.tripTimer = some 1005000 ∧ timely (1005000 + 1000) (tripFive .fed 6) = true ∧
    min 8 ((chanAt (tripFive .fed 6) 5).sw.tripCount + 1) < 8 ∧
    min 8 ((chanAt (tripFive .fed 7) 5).sw.tripCount + 1) = 8 ∧ powered Life.fed = true ∧
    (chanAt (tripFive .fed 6) 5).sw.ocTimer = some 1005900 ∧ timely (1005900 + 100) (tripFive .fed 6) = true ∧
    (chanAt (five { chanIn .fed with lostDue := true }) 5).lostDue = true ∧
    (chanAt (five { chanIn .resuming with lostDue := true }) 5).life = .resuming := by decide +kernel

/-- Channel 5 with an exchange in flight that began at 1000 ms. -/
def exFive (l : Life) (cmd : DownCmd) (ph : ExchangePhase) (ms : Nat) (f : Channel → Channel) : State :=
  { five (f { chanIn l with
      exchange := some { cmd := cmd, arg := 0, seq := false, phase := ph, start := 1000, downlink := [], baseline := 100,
                         answerStart := if ph = .uplink then some 1051500 else none, marks := [] } }) with ms := ms }

/-- ExchangeProceeds: a start point now in each state, a downlink end, and answer starts at both ends of the window. -/
theorem met_exchangeProceeds :
    let placed := fun x : Channel => five { x with placement := some 1000 }
    (placed (chanIn .waking)).inReset = false ∧ (chanAt (placed (chanIn .waking)) 5).placement = some 1000 ∧
    timely (us 1000) (placed (chanIn .waking)) = true ∧ timely (us 1000) (placed (chanIn .resuming)) = true ∧
    timely (us 1000) (placed { chanIn .fed with mailbox := some { cmd := .query, arg := 0 } }) = true ∧
    (chanAt (placed (chanIn .fed)) 5).mailbox = none ∧
    timely (us (1000 + 32)) (exFive .fed .keep .downlink 1031 id) = true ∧
    ({ before := 109, held := 110 } : Rise).before < 100 + 10 ∧ 100 + 10 ≤ ({ before := 109, held := 110 } : Rise).held ∧
    timely (us 1032 + 500) (exFive .fed .keep .window 1032 id) = true ∧ us (1000 + 32) + 500 ≤ us 1032 + 500 ∧
    timely (us 1051 + 1000) (exFive .fed .keep .window 1051 id) = true ∧ us 1051 + 1000 ≤ us (1000 + 52) := by decide +kernel

/-- ExchangeProceeds, its clauses of the FEED output: the first and the last mark of a downlink, in each state of the switch,
and no downlink. -/
theorem met_feedOutput :
    let e := (startExchange 1000 (chanIn .fed)).exchange
    e.map Exchange.phase = some .downlink ∧ e.bind (fun e => e.downlink[0]?) = some true ∧
    e.bind (fun e => e.downlink[15]?) = some false ∧ e.map (fun e => us e.start + 2000 * 15) = some 1030000 ∧
    (switchIn .on switchOnAt1000).state = .on ∧ (switchIn .ramping switchOnAt1000).state = .ramping ∧
    (switchIn .chopOff switchOnAt1000).state = .chopOff ∧ FeedSwitch.reset.state = .opened ∧ (chanIn .fed).exchange = none ∧
    (exFive .fed .keep .downlink 1000 id).probe = none := by
  decide +kernel

/-- WindowExpiryCountsMiss: attempts and misses one short of the limit and at it. -/
theorem met_windowExpiry :
    let s := fun l f => exFive l .keep .window 1052 f
    (s .fed id).inReset = false ∧ timely (us (1000 + 52)) (s .fed id) = true ∧
    (chanAt (s .waking fun x => { x with attempts := 1 }) 5).attempts + 1 < ChanConfig.default.wakeLimit ∧
    ChanConfig.default.wakeLimit ≤ (chanAt (s .waking fun x => { x with attempts := 2 }) 5).attempts + 1 ∧
    (chanAt (s .fed fun x => { x with misses := 1 }) 5).misses + 1 < 3 ∧
    3 ≤ (chanAt (s .resuming fun x => { x with misses := 2 }) 5).misses + 1 := by decide +kernel

/-- The marks of an uplink: a kind, band 5, in-use, alarm 2, a payload, and an echo of 0. -/
def uplink (kind payload : Nat) : List Bool :=
  let fields := marksOf 3 kind ++ marksOf 4 5 ++ [true, false] ++ marksOf 3 2 ++ marksOf 5 payload ++ [false]
  [true, true] ++ fields ++ marksOf 4 (checkOf fields).toNat

/-- The outcome of that uplink for a command, 23 marks received and the last one a load of 110 mA or a rest of 109 mA over a
baseline of 100 mA. -/
def outcomeOf (cmd : DownCmd) (kind payload : Nat) : ExchangeOutcome :=
  let average := if (uplink kind payload).getD 23 false then 110 else 109
  (classify cmd false ((uplink kind payload).dropLast ++ [decide (100 + 10 ≤ average)])).1

/-- UplinkIsClassified, UplinkMissCounts, ValidAnswerInFed, ValidAnswerMovesChannel: the uplink end due, and a corrupt, an
unexpected and each valid answer; a change due where the record is absent and not where it agrees. -/
theorem met_uplinks :
    let s := exFive .fed .query .uplink 1099 id
    s.inReset = false ∧ (chanAt s 5).exchange.map (fun e => timely (exchangeDeadline e) s) = some true ∧
    outcomeOf .query 7 0 = .corrupt ∧ outcomeOf .query 1 0 = .unexpected ∧ outcomeOf .query 2 31 = .valid ∧
    outcomeOf .keep 2 0 = .valid ∧ outcomeOf .doze 3 0 = .valid ∧ outcomeOf .doze 4 0 = .valid ∧
    outcomeOf (.aux 3) 4 0 = .valid ∧ outcomeOf .beginTest 3 0 = .valid ∧ outcomeOf .beginTest 4 9 = .valid ∧
    outcomeOf .wake 1 7 = .valid ∧ outcomeOf .resultQuery 5 20 = .valid ∧
    changeIsDue { kind := .status, band := 5, inUse := true, charging := false, alarm := 2, payload := 0 } none = true ∧
    changeIsDue { kind := .status, band := 5, inUse := true, charging := false, alarm := 2, payload := 0 }
      (some { band := 4, inUse := true, charging := true, alarm := 2, hours := none, lastAnswer := 0, stale := false }) = false ∧
    (chanAt (exFive .resuming .resultQuery .uplink 1099 fun x => { x with test := some (testOf .resuming 0) }) 5).test =
      some (testOf .resuming 0) := by decide +kernel

/-- Channel 4 DARK with a probe in progress that ends with the current millisecond. -/
def probing (partner : Option Chan) (f : Channel → Channel) (other : Life) : State :=
  setChan 5 (chanIn other) (setChan 4 (f (chanIn .dark))
    { at1000 with probe := some { chan := 4, partner := partner, start := 981, stop := 1001 } })

/-- ProbeEndsAct: a LINE probe with auto-wake off and on, a PAIR probe with its partner FAULTED and FED. -/
theorem met_probeEnds :
    (probing none id .dark).inReset = false ∧ timely (us 1001) (probing none id .dark) = true ∧
    timely (us 1001) (probing (some 5) id .fed) = true ∧
    (chanAt (probing none id .dark) 4).life = .dark ∧ (chanAt (probing none id .dark) 4).cfg.autoWake = false ∧
    (chanAt (probing none (fun x => { x with cfg := { x.cfg with autoWake := true } }) .dark) 4).cfg.autoWake = true ∧
    (probing (some 5) id .fed).probe.map Probe.partner = some (some (partnerOf 4)) ∧
    (chanAt (probing (some 5) id .fed) (partnerOf 4)).life = .fed ∧
    (chanAt (probing (some 5) id .faulted) (partnerOf 4)).life = .faulted := by decide +kernel

/-- ServiceFraming: no transaction; one with nothing taken; a command word that needs a word; a POST's first of two. -/
theorem met_serviceFraming :
    live.transaction = none ∧ (atService .nop [] live).transaction.map ServiceTransaction.done = some false ∧
    Cmd.ofCode (commandByte (word 0x0A 0 0 0)) = some .post ∧ 0 < Cmd.post.argWords ∧ ([] : List Word).length + 1 < Cmd.post.argWords ∧
    (atService .post [0, 0] live).transaction.map (fun t => t.words.length) = some 2 := by decide +kernel

/-- EnergyFraming, LoneStatusFreesAssembly, EnergyReadByteReturnsReply: a write in phase COMMAND and in phase ARGUMENT with three
bytes of a word held; a write that has taken nothing in phase ARGUMENT; a read with a reply of one word, at its first and at
its last byte. -/
theorem met_energyFraming :
    let r : Reply := { code := 0, outcome := .done, words := [] }
    (atEnergy .nop [] live).bus = .write 1 ∧ (atEnergy .nop [] live).assembly.cmd = none ∧
    Cmd.ofCode 0x20 = some .setGrant ∧ (atEnergy .post [0, 0] live).assembly.cmd = some 0x0A ∧
    (atEnergy .setGrant [0] live).assembly.part = [0, 0, 0] ∧ Cmd.ofCode 0x0A = some .post ∧
    { atEnergy .setGrant [0] live with bus := .write 0 }.assembly.lone = false ∧
    { live with bus := .read, energy := { PortState.reset with reply := some r } }.energy.reply = some r ∧
    0 + 1 < (replyBytes r).length ∧ (replyBytes r).length ≤ 3 + 1 := by decide +kernel

/-- LoneStatusFreesAssembly: two and three bytes held of a POST's first word, of its last and of a VOTE's only word. -/
theorem met_loneStatus :
    let s := fun code ws part => { live with
      bus := .write 0, assembly := { cmd := some code, words := ws, part := part, lone := false } }
    (s 0x0A [] [7, 0]).bus = .write 0 ∧ (s 0x0A [] [7, 0]).assembly.cmd = some 0x0A ∧ Cmd.ofCode 0x0A = some .post ∧
    ((s 0x0A [] [7, 0]).assembly.words ++ [0]).length < Cmd.post.argWords ∧
    ((s 0x0A [0] [7, 0, 0]).assembly.words ++ [0]).length = Cmd.post.argWords ∧ Cmd.ofCode 0x08 = some .vote ∧
    ((s 0x08 [] [0, 0, 0]).assembly.words ++ [0]).length = Cmd.vote.argWords ∧ (s 0x08 [] [0]).assembly.part.length < 2 := by
  decide +kernel

/-- R164, R22: three bytes of VOTE held, then a write that opens with the STATUS code and goes on: VOTE(on) executes, and the
byte that follows is a command byte. -/
theorem test_lone_status_completes_word :
    let s := { live with bus := .write 0, assembly := { cmd := some 0x08, words := [], part := [0, 0, 0], lone := false } }
    let t := after (.energyArgumentByte 0x20) (after (.energyArgumentByte 0x01) s)
    t.energy.vote = true ∧ t.assembly.cmd = some 0x20 ∧ t.bus = .write 2 := by decide +kernel

/-- LastWordRunsItsRow, RefusedAtPort: the last words of the commands above; a code that names no command. -/
theorem met_refusedAtPort :
    Cmd.ofCode 0x55 = none ∧ (atService .nop [] live).transaction.map ServiceTransaction.words = some [] ∧
    (atEnergy .nop [] live).assembly = .reset ∧ (atEnergy .setGrant [0] live).assembly.part.length < 4 ∧
    (someArgs .setGrant).getLast? = some (word 0 0x0F 0x42 0x40) ∧
    commandByte (word 0x00 1 2 3) = Cmd.nop.code ∧ commandByte (word 0x55 1 2 3) = 0x55 := by decide +kernel

/-- SeekSetsPointer, ReadTakesWords, CausesAndLines, VoteMovesFeed, SetGrantSetsPending, DepositRaisesReserve: argument words at the ends of the ranges and beyond them. -/
theorem met_arguments :
    let b := fun (w : Word) (lo : Nat) => (w.extractLsb' lo 8).toNat
    (b (word 0 31 1 0) 24, b (word 0 31 1 0) 16, b (word 0 31 1 0) 8) = (0, 31, 1) ∧
    (b (word 1 23 0 0) 24, b (word 1 23 0 0) 16) = (1, 23) ∧ (b (word 2 0 0 0) 24, b (word 3 31 2 0) 8) = (2, 2) ∧
    (b (word 0 0 0 1) 0, b (word 0 0 0 8) 0, b (word 0 0 0 0) 0, b (word 0 0 0 9) 0) = (1, 8, 0, 9) ∧
    (b (word 0 0 0 48) 0, b (word 0 0 0 16) 0, b (word 0 0 0 17) 0, b (word 0 0 0 49) 0) = (48, 16, 17, 49) ∧
    (word 0 0x0F 0x42 0x40).toNat = 1000000 ∧ (word 0 0x0F 0x42 0x41).toNat = 1000001 ∧
    (word 0 0x3D 0x09 0).toNat = 4000000 ∧ (word 0 0x3D 0x09 1).toNat = 4000001 := by decide +kernel

/-- DepositRaisesReserve: a deposit that takes the reserve to its alarm level exactly, and one that stays below it by 1 mJ. -/
theorem met_deposit :
    let u := commandTaken .energy (atEnergy .deposit [word 0 0 0 80] { live with reserve := 1920000, alarmLevel := 2000 })
    u.reserve < u.alarmLevel * 1000 ∧ u.alarmLevel * 1000 ≤ min 4000000000 (u.reserve + (word 0 0 0 80).toNat * 1000) ∧
    ¬ u.alarmLevel * 1000 ≤ min 4000000000 (u.reserve + (word 0 0 0 79).toNat * 1000) := by decide +kernel

/-- TakeRemovesOldest, StatusWordIsAnswered, ReadReturnsWholeRecord, CancelEditsRemovesOwn, PostJoinsQueue: a queue with a record
and one without; a pointer at a record's first word and one past it with a record latched; 16 edits and 15. -/
theorem met_queues :
    let r : Report := { frame := 0, slot := 0, afterLoss := false, chan := none, body := .grantExpired 1 }
    let e : Edit := { poster := .energy, tag := 0, content := .classHold true true }
    let s := fun q => commandTaken .energy (atEnergy .take [] { live with energy := { PortState.reset with queue := q } })
    let u := fun n => commandTaken .energy (atEnergy .cancelEdits [] { live with edits := List.replicate n e })
    (portOf (s [r]) .energy).queue = r :: [] ∧ (portOf (s []) .energy).queue = [] ∧ (u 16).edits.length ≤ 16 ∧
    16 ≤ (u 16).edits.length ∧ (u 15).edits.length < 16 ∧ (portOf live .service).pointer.offset = 0 ∧
    editKindOf 7 = some .floors ∧ editOfWords .floors (word 7 0 0x17 0x70) (word 0 0x3D 0x09 0) = some (.floors 6000 4000000) ∧
    editOfWords .floors (word 7 0 0x17 0x71) 0 = none ∧
    { PortState.reset with pointer := { Pointer.reset with offset := 1 }, latch := some [1, 2] }.latch = some [1, 2] := by
  decide +kernel

/-- VoteMovesFeed, ResetPortReturnsPort: the feed OFF with the other vote set, and ON with both. -/
theorem met_votes :
    let s := fun on v w => commandTaken .energy (atEnergy .vote [1]
      { live with feedOn := on, service := { PortState.reset with vote := v }, energy := { PortState.reset with vote := w } })
    (s false true false).feedOn = false ∧ (portOf (s false true false) (otherPort .energy)).vote = true ∧
    (s true true true).feedOn = true ∧ (portOf (s false false false) (otherPort .energy)).vote = false := by decide +kernel

/-- ProbeCommandArrives: a DARK channel whose PAIR partner is powered or not, a request queued, and a full queue. -/
theorem met_probeCommand :
    let s := fun q x => commandTaken .service (atService .probe [word 4 1 0 0] { setChan 5 x live with probeQueue := q })
    ((word 4 1 0 0).extractLsb' 24 8).toNat = (4 : Chan).val ∧ ((word 4 1 0 0).extractLsb' 16 8).toNat ≤ 1 ∧
    (chanAt (s [] (chanIn .dark)) 4).life = .dark ∧ powered (chanAt (s [] (chanIn .dark)) (partnerOf 4)).life = false ∧
    powered (chanAt (s [] (chanIn .fed)) (partnerOf 4)).life = true ∧
    (⟨4, true⟩ : ProbeRequest) ∈ (s [⟨4, true⟩] (chanIn .dark)).probeQueue ∧
    (⟨4, true⟩ : ProbeRequest) ∉ (s (List.replicate 31 ⟨4, false⟩) (chanIn .dark)).probeQueue ∧
    32 ≤ (s (List.replicate 32 ⟨4, false⟩) (chanIn .dark)).probeQueue.length ∧
    24 ≤ ((word 24 0 0 0).extractLsb' 24 8).toNat ∧ 1 < ((word 4 2 0 0).extractLsb' 16 8).toNat := by decide +kernel

/-- LifeCommandsAct: DARK with line UNKNOWN and SHORT, RETIRED, FAULTED with 2 and 3 strikes; no channel 24. -/
theorem met_lifeCommands :
    let s := fun x => commandTaken .service (atService .wake [word 5 0 0 0] (setChan 5 x live))
    ((word 5 0 0 0).extractLsb' 24 8).toNat = (5 : Chan).val ∧ 24 ≤ ((word 24 0 0 0).extractLsb' 24 8).toNat ∧
    (chanAt (s (chanIn .dark)) 5).line = .unknown ∧ (chanAt (s { chanIn .dark with line := .short }) 5).line = .short ∧
    (chanAt (s (chanIn .retired)) 5).life = .retired ∧ (chanAt (s { chanIn .faulted with strikes := 2 }) 5).strikes < 3 ∧
    3 ≤ (chanAt (s { chanIn .faulted with strikes := 3 }) 5).strikes := by decide +kernel

/-- TestAndSendAct: durations 1, 15, 0 and 16; a FED channel with the mailbox empty and full, in use and not; tests in each
phase, BEGIN_TEST on the line and not; the codes and arguments SEND may carry and one it may not; no channel 24. -/
theorem met_testAndSend :
    let s := fun x => commandTaken .service (atService .test [word 5 15 0 0] (setChan 5 x live))
    let record : StatusRecord := { band := 0, inUse := true, charging := false, alarm := 0, hours := none, lastAnswer := 0, stale := true }
    let b := fun (w : Word) (lo : Nat) => (w.extractLsb' lo 8).toNat
    24 ≤ b (word 24 1 0 0) 24 ∧ commandDue .service .abortTest [word 24 1 0 0] (atService .abortTest [word 24 1 0 0] live) = true ∧
    (b (word 5 15 0 0) 16, b (word 5 1 0 0) 16, b (word 5 16 0 0) 16, b (word 5 0 0 0) 16) = (15, 1, 16, 0) ∧
    (chanAt (s (chanIn .fed)) 5).life = .fed ∧ (chanAt (s (chanIn .fed)) 5).mailbox = none ∧
    (chanAt (s { chanIn .fed with mailbox := some { cmd := .query, arg := 0 } }) 5).mailbox ≠ none ∧
    (chanAt (s { chanIn .fed with status := some record }) 5).status = some record ∧
    (chanAt (s { chanIn .fed with test := some (testOf .requested 0), mailbox := some { cmd := .beginTest, arg := 3 } }) 5).mailbox.map
      Mailbox.cmd = some .beginTest ∧
    beginTestInFlight (chanAt (s (chanAt (exFive .fed .beginTest .window 1040 id) 5)) 5) = true ∧
    (chanAt (s { chanIn .testing with test := some (testOf .running 2) }) 5).test = some (testOf .running 2) ∧
    (b (word 5 3 0 0) 16, b (word 5 6 0 0) 8, b (word 5 8 15 0) 8, b (word 5 11 0 0) 16, b (word 5 7 0 0) 16) =
      (3, 0, 15, 11, 7) := by decide +kernel

/-- LineMessagesRoundTrip, PostChecksRanges: the largest fields of an answer, an argument and a configuration. -/
theorem met_fields :
    (15 : Nat) < 16 ∧ (7 : Nat) < 8 ∧ (31 : Nat) < 32 ∧
    (1 ≤ ChanConfig.default.wakeLimit ∧ ChanConfig.default.wakeLimit ≤ 7 ∧ ChanConfig.default.defaultForecast ≤ 10000 ∧
      ChanConfig.default.rampCode ≤ 7) := by decide

/-- The invariants: a running state that is no reset state meets them, and a step goes on from it. A channel is FED and on. -/
def soundState : State :=
  { five { chanIn .fed with sw := switchIn .on { switchOnAt1000 with rampEnd := 996, completion := 1001 } } with
    feedOn := true, service := { PortState.reset with vote := true }, energy := { PortState.reset with vote := true }
    admitted := [⟨5, false⟩], pending := [.slotEnd], slotTime := 100 }

/-- FeedAndSwitchesStaySound, its first clause; the step that all the invariants' statements ask for. -/
theorem met_feedAgrees : FeedAgrees soundState ∧ step soundState = .next (after .slotEnd { soundState with pending := [] }) :=
  ⟨rfl, rfl⟩

/-- FeedAndSwitchesStaySound, its second clause. -/
theorem met_switchesSound : SwitchesSound soundState := by
  unfold SwitchesSound
  decide +kernel

/-- TestsKeepMatching and the premise of ProbesStaySound. -/
theorem met_testsMatch : TestsMatch soundState := by
  intro c
  unfold TestMatches
  have h : ∀ c : Chan, (chanAt soundState c).test = none ∧ (chanAt soundState c).life ≠ .testing ∧
      (chanAt soundState c).life ≠ .resuming ∧ (chanAt soundState c).mailbox = none ∧ (chanAt soundState c).exchange = none := by
    decide +kernel
  obtain ⟨h1, h2, h3, h4, h5⟩ := h c
  rw [h1, h4, h5]
  exact ⟨⟨h2, h3, by simp⟩, by simp, trivial⟩

/-- ExchangesKeepInsideSlot. -/
theorem met_exchangesFit : ExchangesFit soundState := by
  have h : ∀ c : Chan, (chanAt soundState c).placement = none ∧ (chanAt soundState c).exchange = none := by decide +kernel
  refine ⟨by decide, fun _ c => ?_, fun h2 => absurd rfl h2⟩
  obtain ⟨h1, h2⟩ := h c
  unfold ExchangeInSlot
  rw [h1, h2]
  exact ⟨trivial, trivial⟩

/-- ProbesStaySound. -/
theorem met_probesSound : ProbesSound soundState := ⟨by decide, by decide, trivial⟩

/-- A frame in range. -/
theorem met_frameInRange : FrameInRange soundState := by
  refine ⟨?_, ?_, ?_, ?_, ?_, ?_, ?_, ?_, fun e he => by cases he⟩
  · unfold LayoutInRange; decide
  · decide
  · decide
  · decide
  · decide
  · unfold MembersInRange; decide +kernel
  · unfold AdmittedInRange; decide
  · unfold GlobalsInRange; decide

/-- The optional parts of every channel of that state are absent. -/
theorem met_absent (c : Chan) :
    (chanAt soundState c).status = none ∧ (chanAt soundState c).mailbox = none ∧ (chanAt soundState c).test = none ∧
    (chanAt soundState c).exchange = none := by
  revert c; decide +kernel

/-- A channel in range. -/
theorem met_channelInRange (c : Chan) : ChannelInRange (chanAt soundState c) := by
  obtain ⟨h1, h2, h3, h4⟩ := met_absent c
  have h5 : ∀ c : Chan, CountsInRange (chanAt soundState c) := by unfold CountsInRange; decide +kernel
  have h6 : ∀ c : Chan, (chanAt soundState c).sw.rampCode ≤ 7 ∧ (chanAt soundState c).sw.tripCount ≤ 8 ∧
      (chanAt soundState c).sw.lastPeak ≤ 1023 ∧ ∀ p ∈ (chanAt soundState c).sw.switchOn.map SwitchOn.peak, p ≤ 1023 := by
    decide +kernel
  have h7 : ∀ c : Chan, (chanAt soundState c).meter.residue < 100 ∧ (chanAt soundState c).meter.sub < 1000 ∧
      (chanAt soundState c).meter.totalMJ ≤ 4294967295 ∧ ConfigInRange (chanAt soundState c).cfg := by
    unfold ConfigInRange; decide +kernel
  obtain ⟨s1, s2, s3, s4⟩ := h6 c
  obtain ⟨m1, m2, m3, m4⟩ := h7 c
  refine ⟨h5 c, ⟨s1, s2, s3, fun o ho => s4 o.peak (by rw [ho]; rfl)⟩, m1, m2, m3, m4, ?_, ?_, ?_, ?_⟩ <;> intro x hx
  · rw [h1] at hx; cases hx
  · rw [h2] at hx; cases hx
  · rw [h3] at hx; cases hx
  · rw [h4] at hx; cases hx

/-- RangesAreKept, each of its clauses. -/
theorem met_ranges : FrameInRange soundState ∧ AccountInRange soundState ∧ ChannelsInRange soundState ∧
    EnergiesInRange soundState ∧ QueuesBounded soundState := by
  refine ⟨met_frameInRange, ?_, ⟨met_channelInRange, by decide, fun e he => by cases he⟩, ⟨met_frameInRange, ?_⟩, ?_⟩
  · refine ⟨?_, ?_, ?_, ?_, ?_, ?_, ?_, ?_, ?_, fun e he => by cases he⟩
    all_goals first | decide | (unfold TalliesInRange; decide)
  · unfold EnergyInRange; decide +kernel
  · have port : ∀ cap ps, cap = 48 ∨ cap = 16 → ps = { PortState.reset with vote := true } → PortInRange cap ps := by
      intro cap ps hc hp
      subst hp
      refine ⟨by simp [PortState.reset], by decide, ?_, by decide, by decide, by decide, fun h => absurd rfl h, fun r hr => by cases hr⟩
      rcases hc with h | h <;> rw [h] <;> decide
    exact ⟨port _ _ (.inl rfl) rfl, port _ _ (.inr rfl) rfl, by decide, (fun e he => by cases he), ⟨rfl, rfl, rfl⟩,
      (fun _ => rfl), (fun r hr => by cases hr)⟩

end Sys2Proof.Tests
end

/-! ## Channels: what each change of a channel keeps

`SameMeasure` is what every step between slot boundaries leaves of a channel's configuration, forecast and meter.
`PartsInRange` is the part of `ChannelInRange` that does not ask the channel's state, so that it holds in the middle of a
transition too; `LifeCountsInRange` is the rest. -/

section
namespace Sys2Proof.Machine

/-- What a step between slot boundaries leaves of a channel's configuration and energies: a wake or a resumption sets the
forecast to the default (R40), and sampling may stop. -/
structure SameMeasure (x y : Channel) : Prop where
  cfg : y.cfg = x.cfg
  forecast : y.forecast = x.forecast ∨ y.forecast = x.cfg.defaultForecast * 1000
  acc : y.meter.acc = x.meter.acc
  residue : y.meter.residue = x.meter.residue
  sampling : x.meter.sampling = false → y.meter.sampling = false

theorem SameMeasure.refl (x : Channel) : SameMeasure x x := ⟨rfl, .inl rfl, rfl, rfl, id⟩

theorem SameMeasure.trans {x y z : Channel} (h : SameMeasure x y) (k : SameMeasure y z) : SameMeasure x z where
  cfg := k.cfg.trans h.cfg
  forecast := by
    rcases k.forecast with hk | hk
    · rw [hk]; exact h.forecast
    · rw [hk, h.cfg]; exact .inr rfl
  acc := k.acc.trans h.acc
  residue := k.residue.trans h.residue
  sampling := fun hx => k.sampling (h.sampling hx)

/-- The ranges of a channel that hold whatever its state. -/
structure PartsInRange (ch : Channel) : Prop where
  strikes : ch.strikes ≤ 3
  shed : ch.shed ≤ 65535
  attempts : ch.attempts ≤ 7
  misses : ch.misses ≤ 3
  openLoad : ch.sw.openLoad ≤ 160
  sw : SwitchInRange ch.sw
  residue : ch.meter.residue < 100
  sub : ch.meter.sub < 1000
  total : ch.meter.totalMJ ≤ 4294967295
  cfg : ConfigInRange ch.cfg
  status : ∀ r, ch.status = some r → StatusInRange r
  mailbox : ∀ m, ch.mailbox = some m → m.arg ≤ 15
  test : ∀ k, ch.test = some k → TestInRange k
  exchange : ∀ e, ch.exchange = some e → e.arg ≤ 15

/-- The ranges of a channel's counts that its state asks for. -/
structure LifeCountsInRange (ch : Channel) : Prop where
  attempts : ch.life = .waking → ch.attempts ≤ 6
  misses : ch.life = .fed ∨ ch.life = .resuming ∨ ch.test.map TestContext.phase = some .running → ch.misses ≤ 2
  openLoad : ch.life = .fed ∨ ch.life = .resuming → ch.lostDue = false → ch.sw.openLoad ≤ 159

theorem channelInRange_iff (ch : Channel) : ChannelInRange ch ↔ PartsInRange ch ∧ LifeCountsInRange ch := by
  constructor
  · rintro ⟨⟨h1, h2, h3, h4, h5, h6, h7, h8⟩, h9, h10, h11, h12, h13, h14, h15, h16, h17⟩
    exact ⟨⟨h1, h2, h3, h5, h7, h9, h10, h11, h12, h13, h14, h15, h16, h17⟩, ⟨h4, h6, h8⟩⟩
  · rintro ⟨⟨h1, h2, h3, h5, h7, h9, h10, h11, h12, h13, h14, h15, h16, h17⟩, ⟨h4, h6, h8⟩⟩
    exact ⟨⟨h1, h2, h3, h4, h5, h6, h7, h8⟩, h9, h10, h11, h12, h13, h14, h15, h16, h17⟩

/-- A channel in none of the states that bound its counts, with no test, has no more than the ranges of its parts. -/
theorem LifeCountsInRange.of_idle {ch : Channel} (h1 : ch.life ≠ .waking) (h2 : ch.life ≠ .fed) (h3 : ch.life ≠ .resuming)
    (ht : ch.test = none) : LifeCountsInRange ch where
  attempts := fun h => absurd h h1
  misses := by simp [h2, h3, ht]
  openLoad := by simp [h2, h3]

/-! ### Switches -/

theorem adaptedCode_le (g : Globals) (peak : Nat) {code : Nat} (h : code ≤ 7) : adaptedCode g peak code ≤ 7 := by
  unfold adaptedCode
  split
  · omega
  · split <;> omega

theorem SwitchInRange.complete (g : Globals) {sw : FeedSwitch} (h : SwitchInRange sw) : SwitchInRange (completeSwitch g sw) := by
  obtain ⟨hramp, htrip, hlast, hpeak⟩ := h
  unfold completeSwitch
  cases ho : sw.switchOn with
  | none => exact ⟨hramp, htrip, hlast, hpeak⟩
  | some o =>
    simp only
    split
    · exact ⟨hramp, htrip, hlast, hpeak⟩
    · refine ⟨?_, htrip, hpeak o ho, fun o' ho' => ?_⟩
      · simp only
        split
        · exact adaptedCode_le g _ hramp
        · exact hramp
      · cases ho'
        exact hpeak o ho

theorem completeSwitch_openLoad (g : Globals) (sw : FeedSwitch) : (completeSwitch g sw).openLoad = sw.openLoad := by
  unfold completeSwitch
  cases sw.switchOn with
  | none => rfl
  | some o => simp only; split <;> rfl

theorem SwitchInRange.opened (g : Globals) (now : Nat) {sw : FeedSwitch} (h : SwitchInRange sw) :
    SwitchInRange (openSwitch g now sw) := by
  unfold openSwitch
  cases sw.switchOn with
  | none => exact h
  | some o =>
    simp only
    split
    · obtain ⟨hramp, htrip, hlast, -⟩ := h.complete g
      exact ⟨hramp, htrip, hlast, fun _ h0 => nomatch h0⟩
    · obtain ⟨hramp, htrip, hlast, -⟩ := h
      exact ⟨hramp, htrip, hlast, fun _ h0 => nomatch h0⟩

@[simp] theorem openSwitch_openLoad (g : Globals) (now : Nat) (sw : FeedSwitch) :
    (openSwitch g now sw).openLoad = sw.openLoad := by
  unfold openSwitch
  cases sw.switchOn with
  | none => rfl
  | some o =>
    simp only
    split
    · exact completeSwitch_openLoad g sw
    · rfl

theorem SwitchInRange.closed (g : Globals) (cfg : ChanConfig) (now : Nat) {sw : FeedSwitch} (h : SwitchInRange sw) :
    SwitchInRange (closeSwitch g cfg now sw) := by
  obtain ⟨hramp, -, hlast, -⟩ := h
  refine ⟨hramp, Nat.zero_le _, hlast, fun o ho => ?_⟩
  cases ho
  exact Nat.zero_le _

theorem SwitchInRange.tripped (t : Nat) {o : SwitchOn} {sw : FeedSwitch} (h : SwitchInRange sw) (ho : sw.switchOn = some o) :
    SwitchInRange (tripSwitch t o sw) := by
  obtain ⟨hramp, -, hlast, hpeak⟩ := h
  refine ⟨hramp, Nat.min_le_left _ _, hlast, fun o' ho' => ?_⟩
  cases ho'
  exact hpeak o ho

theorem SwitchInRange.chopped (g : Globals) (cfg : ChanConfig) (now : Nat) {o : SwitchOn} {sw : FeedSwitch}
    (h : SwitchInRange sw) (ho : sw.switchOn = some o) : SwitchInRange (startChop g cfg now o sw) := by
  obtain ⟨hramp, htrip, hlast, hpeak⟩ := h
  have hcount : (if o.tripSeen then sw.tripCount else 0) ≤ 8 := by
    split
    · exact htrip
    · exact Nat.zero_le _
  unfold startChop
  simp only
  split
  all_goals
    refine ⟨hramp, hcount, hlast, fun o' ho' => ?_⟩
    cases ho'
    exact hpeak o ho

theorem startChop_openLoad (g : Globals) (cfg : ChanConfig) (now : Nat) (o : SwitchOn) (sw : FeedSwitch) :
    (startChop g cfg now o sw).openLoad = sw.openLoad := by
  unfold startChop
  simp only
  split <;> rfl

theorem SwitchInRange.configured {cfg : ChanConfig} (hcfg : ConfigInRange cfg) (t : Nat) {sw : FeedSwitch}
    (h : SwitchInRange sw) : SwitchInRange (configureSwitch cfg t sw) := by
  obtain ⟨-, htrip, hlast, hpeak⟩ := h
  obtain ⟨-, -, -, hcode⟩ := hcfg
  unfold configureSwitch
  refine ⟨hcode, ?_, ?_, fun o ho => ?_⟩
  · simp only; split <;> exact htrip
  · simp only; split <;> exact hlast
  · obtain ⟨o', ho', rfl⟩ := Option.map_eq_some_iff.1 ho
    split <;> exact hpeak o' ho'

theorem configureSwitch_openLoad (cfg : ChanConfig) (t : Nat) (sw : FeedSwitch) :
    (configureSwitch cfg t sw).openLoad = sw.openLoad := by
  unfold configureSwitch
  simp only
  split <;> rfl

theorem SwitchInRange.peakTaken (t : Nat) {i : Nat} (hi : i ≤ 1023) {sw : FeedSwitch} (h : SwitchInRange sw) :
    SwitchInRange (takePeak t i sw) := by
  obtain ⟨hramp, htrip, hlast, hpeak⟩ := h
  unfold takePeak
  cases ho : sw.switchOn with
  | none => exact ⟨hramp, htrip, hlast, hpeak⟩
  | some o =>
    simp only
    split
    · exact ⟨hramp, htrip, hlast, hpeak⟩
    · refine ⟨hramp, htrip, hlast, fun o' ho' => ?_⟩
      cases ho'
      exact Nat.max_le.2 ⟨hpeak o ho, hi⟩

theorem takePeak_openLoad (t i : Nat) (sw : FeedSwitch) : (takePeak t i sw).openLoad = sw.openLoad := by
  unfold takePeak
  cases sw.switchOn with
  | none => rfl
  | some o => simp only; split <;> rfl

/-! ### Departures and entries to the unpowered states -/

/-- A channel that has left a powered state (R94); an unpowered one as it was. -/
def departed (g : Globals) (now : Nat) (ch : Channel) : Channel := if powered ch.life then departChannel g now ch else ch

/-- What the four steps of R95 leave of a channel. -/
def settled (ch : Channel) : Channel :=
  { ch with test := none, mailbox := none, status := ch.status.map fun r => { r with stale := true } }

theorem PartsInRange.departChannel (g : Globals) (now : Nat) {ch : Channel} (h : PartsInRange ch) :
    PartsInRange (departChannel g now ch) :=
  { h with
    openLoad := (openSwitch_openLoad g now ch.sw).symm ▸ h.openLoad
    sw := h.sw.opened g now
    exchange := fun _ h0 => nomatch h0 }

theorem PartsInRange.departed (g : Globals) (now : Nat) {ch : Channel} (h : PartsInRange ch) :
    PartsInRange (departed g now ch) := by
  unfold Machine.departed
  split
  · exact h.departChannel g now
  · exact h

theorem PartsInRange.settled {ch : Channel} (h : PartsInRange ch) : PartsInRange (settled ch) :=
  { h with
    status := fun r hr => by
      obtain ⟨r', hr', rfl⟩ := Option.map_eq_some_iff.1 hr
      exact h.status r' hr'
    mailbox := fun _ h0 => nomatch h0
    test := fun _ h0 => nomatch h0 }

theorem PartsInRange.darkResults (cause : StateCause) {ch : Channel} (h : PartsInRange ch) :
    PartsInRange (darkResults cause ch) := { h with }

theorem sameMeasure_departed (g : Globals) (now : Nat) (ch : Channel) : SameMeasure ch (departed g now ch) := by
  unfold departed
  split
  · exact ⟨rfl, .inl rfl, rfl, rfl, fun _ => rfl⟩
  · exact .refl ch

theorem sameMeasure_feedOffChannel (g : Globals) (now : Nat) (ch : Channel) : SameMeasure ch (feedOffChannel g now ch) :=
  ⟨rfl, .inl rfl, rfl, rfl, id⟩

theorem ChannelInRange.feedOffChannel (g : Globals) (now : Nat) {ch : Channel} (h : ChannelInRange ch) :
    ChannelInRange (feedOffChannel g now ch) := by
  obtain ⟨hp, hl⟩ := (channelInRange_iff ch).1 h
  refine (channelInRange_iff _).2 ⟨{ hp with openLoad := ?_, sw := hp.sw.opened g now, exchange := fun _ h0 => nomatch h0 },
    { hl with openLoad := ?_ }⟩
  · exact (openSwitch_openLoad g now ch.sw).symm ▸ hp.openLoad
  · exact (openSwitch_openLoad g now ch.sw).symm ▸ hl.openLoad

/-! ### Entries to WAKING, FED, TESTING and RESUMING -/

theorem ChannelInRange.wakeChannel {ch : Channel} (h : ChannelInRange ch) : ChannelInRange (wakeChannel ch) := by
  obtain ⟨hp, hl⟩ := (channelInRange_iff ch).1 h
  exact (channelInRange_iff _).2 ⟨{ hp with attempts := Nat.zero_le _ },
    { attempts := fun _ => Nat.zero_le _
      misses := fun h0 => hl.misses (.inr (.inr (by simpa [Machine.wakeChannel] using h0)))
      openLoad := by simp [Machine.wakeChannel] }⟩

theorem ChannelInRange.feedChannel {ch : Channel} (h : ChannelInRange ch) : ChannelInRange (feedChannel ch) := by
  obtain ⟨hp, -⟩ := (channelInRange_iff ch).1 h
  exact (channelInRange_iff _).2 ⟨{ hp with misses := Nat.zero_le _, openLoad := Nat.zero_le _ },
    { attempts := by simp [Machine.feedChannel]
      misses := fun _ => Nat.zero_le _
      openLoad := fun _ _ => Nat.zero_le _ }⟩

theorem channelInRange_testChannel {ch : Channel} (h : PartsInRange ch) {band : Nat} (hb : band ≤ 15) :
    ChannelInRange (testChannel band ch) := by
  refine (channelInRange_iff _).2 ⟨{ h with
    misses := Nat.zero_le _
    mailbox := fun _ h0 => nomatch h0
    test := fun k hk => ?_ }, ⟨by simp [testChannel], fun _ => Nat.zero_le _, by simp [testChannel]⟩⟩
  obtain ⟨k', hk', rfl⟩ := Option.map_eq_some_iff.1 hk
  obtain ⟨h1, h2, -, -⟩ := h.test k' hk'
  exact ⟨h1, h2, h2, fun b h0 => by cases h0; exact hb⟩

theorem ChannelInRange.resumeChannel (aborted : Bool) {ch : Channel} (h : ChannelInRange ch)
    (hr : ch.test.map TestContext.phase = some .running) : ChannelInRange (resumeChannel aborted ch) := by
  obtain ⟨hp, hl⟩ := (channelInRange_iff ch).1 h
  refine (channelInRange_iff _).2 ⟨{ hp with
    openLoad := Nat.zero_le _
    test := fun k hk => ?_ },
    ⟨by simp [Machine.resumeChannel], fun _ => hl.misses (.inr (.inr hr)), fun _ _ => Nat.zero_le _⟩⟩
  obtain ⟨k', hk', rfl⟩ := Option.map_eq_some_iff.1 hk
  exact hp.test k' hk'

/-! ### Exchanges -/

/-- An answer's fields are in the ranges their marks have (chapter 12.1). -/
structure AnswerInRange (a : Answer) : Prop where
  band : a.band ≤ 15
  alarm : a.alarm ≤ 7
  payload : a.payload ≤ 31

theorem valueOf_foldl_lt (ms : List Bool) (v : Nat) :
    ms.foldl (fun v m => 2 * v + m.toNat) v < (v + 1) * 2 ^ ms.length := by
  induction ms generalizing v with
  | nil => simp
  | cons m ms ih =>
    have hm : m.toNat ≤ 1 := Bool.toNat_le m
    calc _ < (2 * v + m.toNat + 1) * 2 ^ ms.length := ih _
      _ ≤ (2 * (v + 1)) * 2 ^ ms.length := Nat.mul_le_mul_right _ (by omega)
      _ = (v + 1) * 2 ^ (m :: ms).length := by rw [List.length_cons, Nat.pow_succ]; ring

theorem valueOf_take_lt (n : Nat) (ms : List Bool) : valueOf (ms.take n) < 2 ^ n := by
  have h1 := valueOf_foldl_lt (ms.take n) 0
  have h2 : 2 ^ (ms.take n).length ≤ 2 ^ n := Nat.pow_le_pow_right (by omega) (List.length_take_le n ms)
  unfold valueOf
  omega

theorem answerInRange_of_marks {seq : Bool} {ms : List Bool} {a : Answer} (h : answerOfMarks seq ms = some a) :
    AnswerInRange a := by
  unfold answerOfMarks at h
  simp only at h
  split at h
  · cases h
  · split at h
    · cases h
      exact ⟨Nat.le_of_lt_succ (valueOf_take_lt 4 _), Nat.le_of_lt_succ (valueOf_take_lt 3 _),
        Nat.le_of_lt_succ (valueOf_take_lt 5 _)⟩
    · cases h

theorem answerInRange_of_classify {cmd : DownCmd} {seq : Bool} {ms : List Bool} {a : Answer}
    (h : (classify cmd seq ms).2 = some a) : AnswerInRange a := by
  unfold classify at h
  split at h
  · cases h
  · rename_i b hb
    split at h <;> cases h <;> exact answerInRange_of_marks hb

theorem statusInRange_refreshed {frame : Nat} (hf : frame < 65536) {a : Answer} (ha : AnswerInRange a) {old : Option StatusRecord}
    (ho : ∀ r, old = some r → StatusInRange r) : StatusInRange (refreshed frame a old) := by
  refine ⟨ha.band, ha.alarm, fun h hh => ?_, hf⟩
  simp only [refreshed] at hh
  split at hh
  · cases hh
    exact ha.payload
  · cases old with
    | none => cases hh
    | some r =>
      obtain ⟨-, -, hr, -⟩ := ho r rfl
      exact hr h hh

theorem downlinkOf_arg_le {ch : Channel} (h : ∀ m, ch.mailbox = some m → m.arg ≤ 15) : (downlinkOf ch).2 ≤ 15 := by
  unfold downlinkOf
  split
  · exact Nat.zero_le _
  · exact Nat.zero_le _
  all_goals
    split
    · exact h _ (by assumption)
    · exact Nat.zero_le _

theorem ChannelInRange.startExchange (t : Nat) {ch : Channel} (h : ChannelInRange ch) : ChannelInRange (startExchange t ch) := by
  obtain ⟨hp, hl⟩ := (channelInRange_iff ch).1 h
  refine (channelInRange_iff _).2 ⟨{ hp with exchange := fun e he => ?_ }, { hl with }⟩
  cases he
  exact downlinkOf_arg_le hp.mailbox

/-- The exchange in flight replaced by one whose argument is in range, or ended. -/
theorem ChannelInRange.withExchange {ch : Channel} (h : ChannelInRange ch) (e : Option Exchange)
    (he : ∀ x, e = some x → x.arg ≤ 15) (m : Bool) : ChannelInRange { ch with exchange := e, exchangeMs := m } := by
  obtain ⟨hp, hl⟩ := (channelInRange_iff ch).1 h
  exact (channelInRange_iff _).2 ⟨{ hp with exchange := he }, { hl with }⟩

/-- A mailbox command in range joins or leaves. -/
theorem ChannelInRange.withMailbox {ch : Channel} (h : ChannelInRange ch) (m : Option Mailbox)
    (hm : ∀ x, m = some x → x.arg ≤ 15) : ChannelInRange { ch with mailbox := m } := by
  obtain ⟨hp, hl⟩ := (channelInRange_iff ch).1 h
  exact (channelInRange_iff _).2 ⟨{ hp with mailbox := hm }, { hl with }⟩

theorem ChannelInRange.withoutTest {ch : Channel} (h : ChannelInRange ch) : ChannelInRange { ch with test := none } := by
  obtain ⟨hp, hl⟩ := (channelInRange_iff ch).1 h
  refine (channelInRange_iff _).2 ⟨{ hp with test := fun _ h0 => nomatch h0 }, { hl with misses := fun h0 => hl.misses ?_ }⟩
  rcases h0 with h0 | h0 | h0
  · exact .inl h0
  · exact .inr (.inl h0)
  · cases h0

theorem ChannelInRange.withoutMisses {ch : Channel} (h : ChannelInRange ch) : ChannelInRange { ch with misses := 0 } := by
  obtain ⟨hp, hl⟩ := (channelInRange_iff ch).1 h
  exact (channelInRange_iff _).2 ⟨{ hp with misses := Nat.zero_le _ }, { hl with misses := fun _ => Nat.zero_le _ }⟩

theorem ChannelInRange.withStatus {ch : Channel} (h : ChannelInRange ch) {r : StatusRecord} (hr : StatusInRange r) :
    ChannelInRange { ch with status := some r } := by
  obtain ⟨hp, hl⟩ := (channelInRange_iff ch).1 h
  exact (channelInRange_iff _).2 ⟨{ hp with status := fun r' h0 => by cases h0; exact hr }, { hl with }⟩

/-- A switch that keeps its open-load count, within the ranges of R65. -/
theorem ChannelInRange.withSwitch {ch : Channel} (h : ChannelInRange ch) {sw : FeedSwitch} (hs : SwitchInRange sw)
    (ho : sw.openLoad = ch.sw.openLoad) : ChannelInRange { ch with sw := sw } := by
  obtain ⟨hp, hl⟩ := (channelInRange_iff ch).1 h
  exact (channelInRange_iff _).2 ⟨{ hp with sw := hs, openLoad := ho ▸ hp.openLoad }, { hl with openLoad := ho ▸ hl.openLoad }⟩

theorem ChannelInRange.requestTest {d : Nat} (h1 : 1 ≤ d) (h15 : d ≤ 15) {ch : Channel} (h : ChannelInRange ch) :
    ChannelInRange (requestTest d ch) := by
  obtain ⟨hp, hl⟩ := (channelInRange_iff ch).1 h
  refine (channelInRange_iff _).2 ⟨{ hp with mailbox := fun m hm => ?_, test := fun k hk => ?_ },
    { hl with misses := fun h0 => hl.misses ?_ }⟩
  · cases hm
    exact h15
  · cases hk
    exact ⟨h1, h15, Nat.zero_le _, fun _ h0 => nomatch h0⟩
  · rcases h0 with h0 | h0 | h0
    · exact .inl h0
    · exact .inr (.inl h0)
    · cases h0

end Sys2Proof.Machine
end

/-! ## What every step between slot boundaries keeps

`Quiet s t`: from `s` to `t` nothing moved that only the steps of the timebase write, the account's settings, the pending
edits and the ports stayed in range, and every channel kept its measure. `Keeps s t`: beside that every channel stayed in
range. Both are reflexive and transitive, so each operation is proved once, and a step is the operations it is made of. -/

section
namespace Sys2Proof.Machine

/-! ### The ports' ranges -/

theorem PortInRange.entered {cap : Nat} (r : Report) {ps : PortState} (h : PortInRange cap ps) :
    PortInRange cap (enterRecord cap r ps) := by
  obtain ⟨hq, hrest⟩ := h
  obtain ⟨q, lm, lc, he, -⟩ := enterRecord_frame cap r ps
  have hq' := enterRecord_bounded r hq
  rw [he] at hq' ⊢
  exact ⟨hq', hrest⟩

theorem enterRecord_reply (cap : Nat) (r : Report) (ps : PortState) : (enterRecord cap r ps).reply = ps.reply := by
  obtain ⟨q, lm, lc, he, -⟩ := enterRecord_frame cap r ps
  rw [he]

theorem PortInRange.replied {cap : Nat} {r : Reply} (hr : r.words.length ≤ 8) {ps : PortState} (h : PortInRange cap ps) :
    PortInRange cap { ps with reply := some r } := by
  obtain ⟨h1, h2, h3, h4, h5, h6, h7, -⟩ := h
  exact ⟨h1, h2, h3, h4, h5, h6, h7, fun r' h0 => by cases h0; exact hr⟩

theorem portInRange_reset {cap : Nat} (h : 1 ≤ cap) : PortInRange cap .reset :=
  ⟨Nat.zero_le _, Nat.le_refl _, h, by decide, by decide, by decide, fun h0 => absurd rfl h0, fun _ h0 => nomatch h0⟩

theorem PortInRange.cleared {cap : Nat} {ps : PortState} (h : PortInRange cap ps) : PortInRange cap (clearPort ps) := by
  obtain ⟨-, hlow, hcap, htag, -⟩ := h
  obtain ⟨h1, h2, h3, -, h5⟩ := portInRange_reset (Nat.le_trans hlow hcap)
  exact ⟨h1, h2, h3, htag, h5⟩

theorem assemblyInRange_reset : AssemblyInRange .reset := ⟨rfl, rfl, rfl⟩

/-! ### What only the timebase writes -/

/-- The registers that only the steps of reset and of the timebase write. -/
structure Held where
  inReset : Bool
  layout : Layout
  frame : Nat
  slotIndex : Nat
  rotor : Nat
  slotTime : Nat
  phase : SlotPhase
  roster : Vector Row 32
  admitted : List Entry
  globals : Globals
  holdStandard : Bool
  holdDeferrable : Bool
  floor : Nat
  alarmLevel : Nat
  busSample : Nat
  tallies : Tallies
  latched : Nat
  fr : Nat

/-- Those registers of a state. -/
def heldOf (s : State) : Held :=
  { inReset := s.inReset, layout := s.layout, frame := s.frame, slotIndex := s.slotIndex, rotor := s.rotor,
    slotTime := s.slotTime, phase := s.phase, roster := s.roster, admitted := s.admitted, globals := s.globals,
    holdStandard := s.holdStandard, holdDeferrable := s.holdDeferrable, floor := s.floor, alarmLevel := s.alarmLevel,
    busSample := s.busSample, tallies := s.tallies, latched := s.grant.latched, fr := s.grant.fr }

/-- The registers of the account that the energy port's commands set are in range (R48, R52). -/
structure SettingsInRange (s : State) : Prop where
  reserve : s.reserve ≤ 4000000000
  pending : s.grant.pending ≤ 1000000
  life : s.grant.life ≤ 255

/-- Nothing only the timebase writes has moved, settings, edits and ports stay in range, every channel keeps its measure. -/
structure Quiet (s t : State) : Prop where
  held : heldOf t = heldOf s
  settings : SettingsInRange s → SettingsInRange t
  edits : EditsInRange s → EditsInRange t
  queues : QueuesBounded s → QueuesBounded t
  measure : ∀ c, SameMeasure (chanAt s c) (chanAt t c)

theorem Quiet.refl (s : State) : Quiet s s := ⟨rfl, id, id, id, fun _ => .refl _⟩

theorem Quiet.trans {s t u : State} (h : Quiet s t) (k : Quiet t u) : Quiet s u :=
  ⟨k.held.trans h.held, k.settings ∘ h.settings, k.edits ∘ h.edits, k.queues ∘ h.queues,
    fun c => (h.measure c).trans (k.measure c)⟩

theorem Quiet.frame {s t : State} (h : Quiet s t) : t.frame = s.frame := congrArg Held.frame h.held

/-! ### Operations that are quiet -/

/-- Writes of the feed's state, the probe engine, the service port's framing, the bus's pins and the free counter. -/
theorem quiet_write (s : State) (feed : Bool) (q : List ProbeRequest) (pr : Option Probe) (w : Bool)
    (tr : Option ServiceTransaction) (sd : Option Word) (bus : BusState) (sda : Byte) (ack : Bool) (n : Nat) :
    Quiet s { s with feedOn := feed, probeQueue := q, probe := pr, waiting := w, transaction := tr, sdo := sd,
                     bus := bus, sda := sda, ackOut := ack, freeCount := n } :=
  ⟨rfl, fun h => ⟨h.reserve, h.pending, h.life⟩, id, id, fun _ => .refl _⟩

theorem quiet_channels {cs : Vector Channel 24} {s : State} (h : ∀ c : Chan, SameMeasure (chanAt s c) cs[c]) :
    Quiet s { s with channels := cs } :=
  ⟨rfl, fun h => ⟨h.reserve, h.pending, h.life⟩, id, id, h⟩

theorem quiet_mapChans {f : Chan → Channel → Channel} {s : State} (h : ∀ c, SameMeasure (chanAt s c) (f c (chanAt s c))) :
    Quiet s (mapChans f s) :=
  quiet_channels fun c => by rw [Fin.getElem_fin, Vector.getElem_ofFn]; exact h c

theorem quiet_modChan {c : Chan} {f : Channel → Channel} {s : State} (h : SameMeasure (chanAt s c) (f (chanAt s c))) :
    Quiet s (modChan c f s) := by
  refine ⟨rfl, fun h => ⟨h.reserve, h.pending, h.life⟩, id, id, fun d => ?_⟩
  by_cases hd : d = c
  · subst hd
    rw [chanAt_modChan_self]
    exact h
  · rw [chanAt_modChan_other hd]
    exact .refl _

/-- A change of a port that keeps its pending reply and its ranges. -/
theorem quiet_modPort {p : Port} {f : PortState → PortState} {s : State} (hr : (f (portOf s p)).reply = (portOf s p).reply)
    (hf : PortInRange (queueCapacity p) (portOf s p) → PortInRange (queueCapacity p) (f (portOf s p))) :
    Quiet s (modPort p f s) := by
  cases p with
  | service =>
    refine ⟨rfl, fun h => ⟨h.reserve, h.pending, h.life⟩, id, ?_, fun _ => .refl _⟩
    rintro ⟨h1, h⟩
    exact ⟨hf h1, h⟩
  | energy =>
    refine ⟨rfl, fun h => ⟨h.reserve, h.pending, h.life⟩, id, ?_, fun _ => .refl _⟩
    rintro ⟨h1, h2, h3, h4, h5, h6, h7⟩
    exact ⟨h1, hf h2, h3, h4, h5, hr.symm ▸ h6, hr.symm ▸ h7⟩

theorem quiet_report (p : Port) (c : Option Chan) (b : ReportBody) (s : State) : Quiet s (report p c b s) :=
  quiet_modPort (enterRecord_reply _ _ _) fun h => h.entered _

theorem quiet_reportChan (c : Chan) (b : ReportBody) (s : State) : Quiet s (reportChan c b s) := quiet_report _ _ _ s

theorem quiet_reply (p : Port) (k : Byte) (o : ReplyCode) {ws : List Word} (hw : ws.length ≤ 8) (s : State) :
    Quiet s (reply p k o ws s) := by
  cases p with
  | service =>
    refine ⟨rfl, fun h => ⟨h.reserve, h.pending, h.life⟩, id, ?_, fun _ => .refl _⟩
    rintro ⟨h1, h⟩
    exact ⟨h1.replied hw, h⟩
  | energy =>
    refine ⟨rfl, fun h => ⟨h.reserve, h.pending, h.life⟩, id, ?_, fun _ => .refl _⟩
    rintro ⟨h1, h2, h3, h4, h5, -, -⟩
    refine ⟨h1, h2.replied hw, h3, h4, h5, (fun _ => rfl), fun r hr => ?_⟩
    exact Nat.mul_pos (by decide) (Nat.succ_pos _)

/-! ### Looks and requests -/

theorem quiet_reportProbe (r : ProbeRequest) (o : ProbeOutcome) (v : Option Nat) (s : State) : Quiet s (reportProbe r o v s) :=
  quiet_reportChan _ _ s

theorem quiet_examine (q kept : List ProbeRequest) (s : State) : Quiet s (examine kept q s) := by
  induction q generalizing kept s with
  | nil => exact quiet_write s ..
  | cons r rest ih =>
    unfold examine
    split
    · exact (quiet_reportProbe ..).trans (ih _ _)
    · split
      · exact ih _ _
      · exact quiet_write s ..

theorem quiet_look (s : State) : Quiet s (look s) := by
  unfold look
  split
  · exact .refl s
  · split
    · exact quiet_write s ..
    · exact quiet_examine _ _ s

theorem quiet_appendProbe (r : ProbeRequest) (s : State) : Quiet s (appendProbe r s) := (quiet_write s ..).trans (quiet_look _)

theorem quiet_requestLine (c : Chan) (s : State) : Quiet s (requestLine c s) := by
  unfold requestLine
  simp only
  split
  · exact .refl s
  · split
    · exact quiet_appendProbe _ s
    · exact quiet_reportProbe _ _ _ s

theorem quiet_cancelProbe (c : Chan) (s : State) : Quiet s (cancelProbe c s) := by
  unfold cancelProbe
  split
  · split
    · exact ((quiet_write s ..).trans (quiet_reportProbe _ _ _ _)).trans (quiet_look _)
    · exact .refl s
  · exact .refl s

/-! ### Entries to the unpowered states -/

theorem quiet_reportOwn (c : Chan) (own : Option ReportBody) (s : State) : Quiet s (reportOwn c own s) := by
  cases own with
  | none => exact .refl s
  | some b => exact quiet_reportChan c b s

theorem quiet_endTest (c : Chan) (o : TestOutcome) (s : State) : Quiet s (endTest c o s) := by
  unfold endTest
  split
  · refine (quiet_modChan ?_).trans (quiet_reportChan _ _ _)
    exact ⟨rfl, .inl rfl, rfl, rfl, id⟩
  · exact .refl s

theorem quiet_dropMailbox (c : Chan) (s : State) : Quiet s (dropMailbox c s) := by
  unfold dropMailbox
  split
  · refine (quiet_modChan ?_).trans (quiet_reportChan _ _ _)
    exact ⟨rfl, .inl rfl, rfl, rfl, id⟩
  · exact .refl s

theorem quiet_markStale (c : Chan) (s : State) : Quiet s (markStale c s) :=
  quiet_modChan ⟨rfl, .inl rfl, rfl, rfl, id⟩

theorem quiet_settleUnpowered (c : Chan) (own : Option ReportBody) (o : TestOutcome) (s : State) :
    Quiet s (settleUnpowered c own o s) :=
  (((quiet_reportOwn c own s).trans (quiet_endTest c o _)).trans (quiet_dropMailbox c _)).trans (quiet_markStale c _)

/-- A departure is `departed` at its channel. -/
theorem depart_eq (c : Chan) (s : State) : depart c s = modChan c (departed s.globals s.ms) s := by
  unfold depart
  split
  · rename_i h
    simp [modChan, departed, h]
  · rename_i h
    simp [modChan, departed, h]

theorem quiet_depart (c : Chan) (s : State) : Quiet s (depart c s) := by
  rw [depart_eq]
  exact quiet_modChan (sameMeasure_departed _ _ _)

theorem quiet_enterDark (c : Chan) (cause : StateCause) (own : Option ReportBody) (o : TestOutcome) (s : State) :
    Quiet s (enterDark c cause own o s) := by
  have hsettle : Quiet s (settleUnpowered c own o (modChan c (darkResults cause) (depart c s))) :=
    ((quiet_depart c s).trans (quiet_modChan ⟨rfl, .inl rfl, rfl, rfl, id⟩)).trans (quiet_settleUnpowered c own o _)
  unfold enterDark
  simp only
  split
  · exact hsettle.trans (quiet_requestLine c _)
  · exact hsettle

theorem quiet_enterFaulted (c : Chan) (cause : StateCause) (partner : Option Chan) (s : State) :
    Quiet s (enterFaulted c cause partner s) :=
  ((quiet_depart c s).trans (quiet_modChan ⟨rfl, .inl rfl, rfl, rfl, id⟩)).trans (quiet_settleUnpowered c _ _ _)

theorem quiet_enterRetired (c : Chan) (s : State) : Quiet s (enterRetired c s) :=
  ((quiet_depart c s).trans (quiet_modChan ⟨rfl, .inl rfl, rfl, rfl, id⟩)).trans (quiet_settleUnpowered c _ _ _)

/-! ### What the entries leave of each channel -/

@[simp] theorem chanAt_reportChan (c : Chan) (b : ReportBody) (s : State) (d : Chan) :
    chanAt (reportChan c b s) d = chanAt s d := chanAt_report _ _ _ s d

theorem chanAt_modChan (c d : Chan) (f : Channel → Channel) (s : State) :
    chanAt (modChan c f s) d = if d = c then f (chanAt s c) else chanAt s d := chanAt_setChan c d _ s

@[simp] theorem chanAt_reportOwn (c : Chan) (own : Option ReportBody) (s : State) (d : Chan) :
    chanAt (reportOwn c own s) d = chanAt s d := by
  cases own with
  | none => rfl
  | some b => exact chanAt_reportChan c b s d

theorem chanAt_endTest (c : Chan) (o : TestOutcome) (s : State) (d : Chan) :
    chanAt (endTest c o s) d =
      if d = c then
        { chanAt s c with
          test := none
          mailbox := if (chanAt s c).test.isSome then (chanAt s c).mailbox.filter fun m => m.cmd ≠ .beginTest
            else (chanAt s c).mailbox }
      else chanAt s d := by
  unfold endTest
  split
  · rename_i t ht
    simp [chanAt_modChan, ht]
  · rename_i ht
    by_cases h : d = c
    · rw [if_pos h, h]
      generalize chanAt s c = x at ht
      cases x
      simp_all
    · rw [if_neg h]

theorem chanAt_dropMailbox (c : Chan) (s : State) (d : Chan) :
    chanAt (dropMailbox c s) d = if d = c then { chanAt s c with mailbox := none } else chanAt s d := by
  unfold dropMailbox
  split
  · simp [chanAt_modChan]
  · rename_i hm
    by_cases h : d = c
    · rw [if_pos h, h, ← hm]
    · rw [if_neg h]

theorem chanAt_settleUnpowered (c : Chan) (own : Option ReportBody) (o : TestOutcome) (s : State) (d : Chan) :
    chanAt (settleUnpowered c own o s) d = if d = c then settled (chanAt s c) else chanAt s d := by
  unfold settleUnpowered markStale
  by_cases h : d = c
  · simp [h, chanAt_dropMailbox, chanAt_endTest, settled]
  · simp [h, chanAt_modChan, chanAt_dropMailbox, chanAt_endTest]

@[simp] theorem chanAt_requestLine (c : Chan) (s : State) (d : Chan) : chanAt (requestLine c s) d = chanAt s d := by
  obtain ⟨q, pr, w, sv, h⟩ := requestLine_frame c s
  rw [h]
  rfl

@[simp] theorem chanAt_cancelProbe (c : Chan) (s : State) (d : Chan) : chanAt (cancelProbe c s) d = chanAt s d := by
  obtain ⟨q, pr, w, sv, h⟩ := cancelProbe_frame c s
  rw [h]
  rfl

theorem chanAt_enterDark (c : Chan) (cause : StateCause) (own : Option ReportBody) (o : TestOutcome) (s : State) (d : Chan) :
    chanAt (enterDark c cause own o s) d =
      if d = c then settled (darkResults cause (departed s.globals s.ms (chanAt s c))) else chanAt s d := by
  unfold enterDark
  simp only
  rw [apply_ite (chanAt · d), chanAt_requestLine, ite_self, chanAt_settleUnpowered, depart_eq]
  by_cases h : d = c
  · simp [h]
  · simp [h, chanAt_modChan]

theorem chanAt_enterFaulted (c : Chan) (cause : StateCause) (partner : Option Chan) (s : State) (d : Chan) :
    chanAt (enterFaulted c cause partner s) d =
      if d = c then
        settled { departed s.globals s.ms (chanAt s c) with
          life := .faulted, cause := cause, strikes := min lockStrikes ((chanAt s c).strikes + 1) }
      else chanAt s d := by
  unfold enterFaulted
  simp only
  rw [chanAt_settleUnpowered, depart_eq]
  by_cases h : d = c
  · simp [h]
  · simp [h, chanAt_modChan]

theorem chanAt_enterRetired (c : Chan) (s : State) (d : Chan) :
    chanAt (enterRetired c s) d =
      if d = c then settled { departed s.globals s.ms (chanAt s c) with life := .retired } else chanAt s d := by
  unfold enterRetired
  rw [chanAt_settleUnpowered, depart_eq]
  by_cases h : d = c
  · simp [h]
  · simp [h, chanAt_modChan]

/-! ### Steps that keep every channel in range -/

/-- A quiet step that keeps every channel in range. -/
structure Keeps (s t : State) : Prop extends Quiet s t where
  channels : s.frame < 65536 → (∀ c, ChannelInRange (chanAt s c)) → ∀ c, ChannelInRange (chanAt t c)

theorem Keeps.refl (s : State) : Keeps s s := ⟨.refl s, fun _ h => h⟩

theorem Keeps.trans {s t u : State} (h : Keeps s t) (k : Keeps t u) : Keeps s u :=
  ⟨h.toQuiet.trans k.toQuiet, fun hf hc => k.channels (h.frame.symm ▸ hf) (h.channels hf hc)⟩

theorem Keeps.ite {s t u : State} {q : Prop} [Decidable q] (ht : Keeps s t) (hu : Keeps s u) : Keeps s (if q then t else u) := by
  split <;> assumption

/-- A quiet step that writes no channel. -/
theorem Quiet.keeps {s t : State} (h : Quiet s t) (hc : ∀ c, chanAt t c = chanAt s c) : Keeps s t :=
  ⟨h, fun _ hs c => (hc c).symm ▸ hs c⟩

/-- A quiet step of one channel. -/
theorem Quiet.keeps_one {s t : State} (h : Quiet s t) (c : Chan) (hd : ∀ d, d ≠ c → chanAt t d = chanAt s d)
    (hc : s.frame < 65536 → ChannelInRange (chanAt s c) → ChannelInRange (chanAt t c)) : Keeps s t := by
  refine ⟨h, fun hf hs d => ?_⟩
  by_cases hdc : d = c
  · exact hdc ▸ hc hf (hs c)
  · exact (hd d hdc).symm ▸ hs d

theorem keeps_modChan {c : Chan} {f : Channel → Channel} {s : State} (hm : SameMeasure (chanAt s c) (f (chanAt s c)))
    (hr : s.frame < 65536 → ChannelInRange (chanAt s c) → ChannelInRange (f (chanAt s c))) : Keeps s (modChan c f s) :=
  (quiet_modChan hm).keeps_one c (fun _ hd => chanAt_modChan_other hd f s) (by rwa [chanAt_modChan_self])

theorem keeps_mapChans {f : Chan → Channel → Channel} {s : State} (hm : ∀ c, SameMeasure (chanAt s c) (f c (chanAt s c)))
    (hr : ∀ c, ChannelInRange (chanAt s c) → ChannelInRange (f c (chanAt s c))) : Keeps s (mapChans f s) :=
  ⟨quiet_mapChans hm, fun _ hs c => by rw [chanAt_mapChans]; exact hr c (hs c)⟩

theorem keeps_report (p : Port) (c : Option Chan) (b : ReportBody) (s : State) : Keeps s (report p c b s) :=
  (quiet_report p c b s).keeps (chanAt_report p c b s)

theorem keeps_reportChan (c : Chan) (b : ReportBody) (s : State) : Keeps s (reportChan c b s) := keeps_report _ _ _ s

theorem keeps_reply (p : Port) (k : Byte) (o : ReplyCode) {ws : List Word} (hw : ws.length ≤ 8) (s : State) :
    Keeps s (reply p k o ws s) := (quiet_reply p k o hw s).keeps (chanAt_reply p k o ws s)

theorem keeps_look (s : State) : Keeps s (look s) := (quiet_look s).keeps (chanAt_look s)

theorem keeps_cancelProbe (c : Chan) (s : State) : Keeps s (cancelProbe c s) :=
  (quiet_cancelProbe c s).keeps (chanAt_cancelProbe c s)

theorem keeps_write (s : State) (feed : Bool) (q : List ProbeRequest) (pr : Option Probe) (w : Bool)
    (tr : Option ServiceTransaction) (sd : Option Word) (bus : BusState) (sda : Byte) (ack : Bool) (n : Nat) :
    Keeps s { s with feedOn := feed, probeQueue := q, probe := pr, waiting := w, transaction := tr, sdo := sd,
                     bus := bus, sda := sda, ackOut := ack, freeCount := n } :=
  (quiet_write s ..).keeps fun _ => rfl

/-- An entry to DARK asks only the parts of its channel to be in range: in the middle of a transition its counts may stand
at their bound. -/
theorem channelInRange_dark (g : Globals) (now : Nat) (cause : StateCause) {ch : Channel} (h : PartsInRange ch) :
    ChannelInRange (settled (darkResults cause (departed g now ch))) :=
  (channelInRange_iff _).2 ⟨((h.departed g now).darkResults cause).settled,
    .of_idle (by simp [settled, darkResults]) (by simp [settled, darkResults]) (by simp [settled, darkResults]) rfl⟩

theorem keeps_enterDark (c : Chan) (cause : StateCause) (own : Option ReportBody) (o : TestOutcome) (s : State) :
    Keeps s (enterDark c cause own o s) :=
  (quiet_enterDark c cause own o s).keeps_one c (fun d hd => by rw [chanAt_enterDark, if_neg hd]) fun _ h => by
    rw [chanAt_enterDark, if_pos rfl]
    exact channelInRange_dark _ _ _ ((channelInRange_iff _).1 h).1

theorem keeps_enterFaulted (c : Chan) (cause : StateCause) (partner : Option Chan) (s : State) :
    Keeps s (enterFaulted c cause partner s) :=
  (quiet_enterFaulted c cause partner s).keeps_one c (fun d hd => by rw [chanAt_enterFaulted, if_neg hd]) fun _ h => by
    rw [chanAt_enterFaulted, if_pos rfl]
    have hp := ((channelInRange_iff _).1 h).1.departed s.globals s.ms
    have hfault : PartsInRange { departed s.globals s.ms (chanAt s c) with
        life := .faulted, cause := cause, strikes := min lockStrikes ((chanAt s c).strikes + 1) } :=
      { hp with strikes := Nat.min_le_left _ _ }
    exact (channelInRange_iff _).2 ⟨hfault.settled, .of_idle (by simp [settled]) (by simp [settled]) (by simp [settled]) rfl⟩

theorem keeps_enterRetired (c : Chan) (s : State) : Keeps s (enterRetired c s) :=
  (quiet_enterRetired c s).keeps_one c (fun d hd => by rw [chanAt_enterRetired, if_neg hd]) fun _ h => by
    rw [chanAt_enterRetired, if_pos rfl]
    have hp := ((channelInRange_iff _).1 h).1.departed s.globals s.ms
    have hretired : PartsInRange { departed s.globals s.ms (chanAt s c) with life := .retired } := { hp with }
    exact (channelInRange_iff _).2 ⟨hretired.settled, .of_idle (by simp [settled]) (by simp [settled]) (by simp [settled]) rfl⟩

end Sys2Proof.Machine
end

/-! ## Port commands and framing keep the frame -/

section
namespace Sys2Proof.Machine

/-! ### Fields of words and what they name -/

theorem bits_lt (hi lo : Nat) (w : Word) : bits hi lo w < 2 ^ (hi + 1 - lo) := BitVec.isLt _

theorem chansOf_length {ns : List Nat} {cs : List Chan} (h : chansOf ns = some cs) : cs.length = ns.length := by
  induction ns generalizing cs with
  | nil => cases h; rfl
  | cons n rest ih =>
    unfold chansOf at h
    split at h
    · rename_i cs' _ hrest
      cases h
      simp [ih hrest]
    · cases h

theorem configInRange_of_word {w : Word} {cfg : ChanConfig} (h : configOfWord w = some cfg) : ConfigInRange cfg := by
  unfold configOfWord at h
  split at h
  · cases h
  · split at h
    · rename_i hw
      cases h
      obtain ⟨hlimit, hforecast⟩ := hw
      exact ⟨hlimit, Nat.le_of_lt_succ (bits_lt 17 15 w), hforecast, Nat.le_of_lt_succ (bits_lt 20 18 w)⟩
    · cases h

/-- The checks of R147 let no value out of range into the queue. -/
theorem editInRange_of_words {k : EditKind} {w1 w2 : Word} {content : EditContent} (h : editOfWords k w1 w2 = some content)
    (p : Port) (tag : Nat) : EditInRange { poster := p, tag := tag, content := content } := by
  cases k with
  | rowSet =>
    simp only [editOfWords] at h
    split at h
    · rename_i r ms _ hms
      split at h
      · rename_i hn
        cases h
        refine ⟨?_, hn.2⟩
        rw [chansOf_length hms, List.length_take]
        exact Nat.le_trans (Nat.min_le_left _ _) hn.1
      · cases h
    · cases h
  | rowAdd =>
    simp only [editOfWords] at h
    split at h <;> cases h
    trivial
  | rowDrop =>
    simp only [editOfWords] at h
    split at h <;> cases h
    trivial
  | channelConfig =>
    simp only [editOfWords] at h
    split at h
    · rename_i hcfg
      cases h
      exact configInRange_of_word hcfg
    · cases h
  | layout =>
    simp only [editOfWords] at h
    split at h
    · rename_i hl
      cases h
      exact hl
    · cases h
  | globals =>
    simp only [editOfWords] at h
    split at h
    · split at h
      · rename_i hg
        cases h
        exact hg
      · cases h
    · cases h
  | classHold =>
    simp only [editOfWords] at h
    split at h <;> cases h
    trivial
  | floors =>
    simp only [editOfWords] at h
    split at h
    · rename_i hf
      cases h
      exact hf
    · cases h

/-- A record has at most eight words (chapter 12.3). -/
theorem reportWords_length_le (r : Report) : (reportWords r).length ≤ 8 := by
  unfold reportWords
  cases r.body <;> exact Nat.le_of_ble_eq_true rfl

/-! ### Replies, votes and port reset -/

theorem keeps_done (p : Port) (cmd : Cmd) {ws : List Word} (h : ws.length ≤ 8) (s : State) : Keeps s (done p cmd ws s) :=
  keeps_reply p _ _ h s

theorem keeps_refuse (p : Port) (cmd : Cmd) (o : ReplyCode) (s : State) : Keeps s (refuse p cmd o s) :=
  keeps_reply p _ _ (Nat.zero_le _) s

/-- A command answered DONE with one result word. -/
theorem keeps_doneWord (p : Port) (cmd : Cmd) (w : Word) (s : State) : Keeps s (done p cmd [w] s) :=
  keeps_done p cmd (by simp) s

theorem keeps_modPort {p : Port} {f : PortState → PortState} {s : State} (hr : (f (portOf s p)).reply = (portOf s p).reply)
    (hf : PortInRange (queueCapacity p) (portOf s p) → PortInRange (queueCapacity p) (f (portOf s p))) :
    Keeps s (modPort p f s) := (quiet_modPort hr hf).keeps (chanAt_modPort p f s)

theorem keeps_reportFeedState (p : Port) (pr : Bool) (s : State) : Keeps s (reportFeedState p pr s) :=
  (keeps_report ..).trans (keeps_report ..)

theorem keeps_feedOn (p : Port) (s : State) : Keeps s (feedOn p s) := (keeps_write s ..).trans (keeps_reportFeedState ..)

theorem keeps_feedOff (p : Port) (pr : Bool) (s : State) : Keeps s (feedOff p pr s) := by
  have hopen : Keeps s (mapChans (fun _ ch => feedOffChannel s.globals s.ms ch) { s with feedOn := false }) :=
    (keeps_write s ..).trans (keeps_mapChans (fun _ => sameMeasure_feedOffChannel _ _ _) fun _ h => h.feedOffChannel _ _)
  unfold feedOff
  exact (hopen.trans (keeps_reportFeedState ..)).trans (keeps_modPort rfl id)

theorem keeps_setVote (p : Port) (on : Bool) (s : State) : Keeps s (setVote p on s) := keeps_modPort rfl id

theorem keeps_doVote (p : Port) (arg : Word) (s : State) : Keeps s (doVote p arg s) := by
  unfold doVote
  split
  · refine Keeps.trans ?_ (keeps_done p _ (Nat.zero_le _) _)
    simp only
    split
    · exact (keeps_setVote p false s).trans (keeps_feedOff ..)
    · exact keeps_setVote p false s
  · refine Keeps.trans ?_ (keeps_done p _ (Nat.zero_le _) _)
    simp only
    split
    · exact (keeps_setVote p true s).trans (keeps_feedOn ..)
    · exact keeps_setVote p true s
  · exact keeps_refuse ..

theorem quiet_removeEdits (p : Port) (s : State) : Quiet s (removeEdits p s) := by
  refine ⟨rfl, fun h => ⟨h.reserve, h.pending, h.life⟩, fun h e he => h e (List.mem_of_mem_filter he), ?_, fun _ => .refl _⟩
  rintro ⟨h1, h2, h3, h4, h5⟩
  exact ⟨h1, h2, Nat.le_trans (List.length_filter_le _ _) h3, fun e he => h4 e (List.mem_of_mem_filter he), h5⟩

theorem keeps_removeEdits (p : Port) (s : State) : Keeps s (removeEdits p s) := (quiet_removeEdits p s).keeps fun _ => rfl

/-- A port's state and framing emptied together: at the energy port the reply and the read position go at once (R170). -/
theorem keeps_clearFraming_clearPort (p : Port) (s : State) : Keeps s (clearFraming p (modPort p clearPort s)) := by
  cases p with
  | service =>
    refine Quiet.keeps ⟨rfl, fun h => ⟨h.reserve, h.pending, h.life⟩, id, ?_, fun _ => .refl _⟩ fun _ => rfl
    rintro ⟨h1, h⟩
    exact ⟨h1.cleared, h⟩
  | energy =>
    refine Quiet.keeps ⟨rfl, fun h => ⟨h.reserve, h.pending, h.life⟩, id, ?_, fun _ => .refl _⟩ fun _ => rfl
    rintro ⟨h1, h2, h3, h4, -⟩
    exact ⟨h1, h2.cleared, h3, h4, assemblyInRange_reset, fun _ => rfl, fun _ h0 => nomatch h0⟩

theorem keeps_doResetPort (p : Port) (s : State) : Keeps s (doResetPort p s) := by
  have hclear := (keeps_clearFraming_clearPort p s).trans (keeps_removeEdits p _)
  refine Keeps.trans ?_ (keeps_doneWord p _ _ _)
  split
  · exact hclear.trans (keeps_feedOff ..)
  · exact hclear

/-! ### Status, queue and causes -/

theorem keeps_doStatus (p : Port) (s : State) : Keeps s (doStatus p s) := keeps_doneWord p _ _ s

theorem keeps_doNop (p : Port) (s : State) : Keeps s (doNop p s) := keeps_doneWord p _ _ s

theorem keeps_doTake (p : Port) (s : State) : Keeps s (doTake p s) := by
  unfold doTake
  split
  · rename_i r rest hq
    refine (keeps_modPort rfl ?_).trans (keeps_done p _ (reportWords_length_le r) _)
    rintro ⟨hlen, h⟩
    rw [hq] at hlen
    exact ⟨Nat.le_trans (Nat.le_succ _) hlen, h⟩
  · exact keeps_refuse ..

theorem keeps_doAck (p : Port) (arg : Word) (s : State) : Keeps s (doAck p arg s) :=
  (keeps_modPort rfl id).trans (keeps_done p _ (Nat.zero_le _) _)

theorem keeps_doMask (p : Port) (arg : Word) (s : State) : Keeps s (doMask p arg s) :=
  (keeps_modPort rfl id).trans (keeps_done p _ (Nat.zero_le _) _)

theorem keeps_doWatermark (p : Port) (arg : Word) (s : State) : Keeps s (doWatermark p arg s) := by
  unfold doWatermark
  simp only
  split
  · rename_i hn
    refine (keeps_modPort rfl ?_).trans (keeps_done p _ (Nat.zero_le _) _)
    rintro ⟨h1, -, -, h⟩
    exact ⟨h1, hn.1, hn.2, h⟩
  · exact keeps_refuse ..

/-! ### The table window -/

theorem recordWords_pos (t : Table) : 0 < recordWords t := by cases t <;> decide

theorem tableRecords_pos (t : Table) : 0 < tableRecords t := by cases t <;> decide

theorem keeps_doSeek (p : Port) (arg : Word) (s : State) : Keeps s (doSeek p arg s) := by
  unfold doSeek
  split
  · split
    · rename_i t d _ _ hi
      refine (keeps_modPort rfl ?_).trans (keeps_done p _ (Nat.zero_le _) _)
      rintro ⟨h1, h2, h3, h4, -, -, -, h8⟩
      exact ⟨h1, h2, h3, h4, hi, recordWords_pos t, fun h0 => absurd rfl h0, h8⟩
    · exact keeps_refuse ..
  · exact keeps_refuse ..

theorem recordOf_length (s : State) (t : Table) (i : Nat) : (recordOf s t i).length = recordWords t := by cases t <;> rfl

theorem stepIndex_lt {t : Table} {i : Nat} (h : i < tableRecords t) (d : Direction) : stepIndex t d i < tableRecords t := by
  have hpos := tableRecords_pos t
  cases d with
  | up => simp only [stepIndex]; split <;> assumption
  | down => simp only [stepIndex]; split <;> omega

@[simp] theorem stepPointer_table (q : Pointer) : (stepPointer q).table = q.table := by unfold stepPointer; split <;> rfl

theorem stepPointer_offset_lt (q : Pointer) : (stepPointer q).offset < recordWords q.table := by
  unfold stepPointer
  split
  · assumption
  · exact recordWords_pos _

theorem stepPointer_index_lt {q : Pointer} (h : q.index < tableRecords q.table) :
    (stepPointer q).index < tableRecords q.table := by
  unfold stepPointer
  split
  · exact h
  · exact stepIndex_lt h _

/-- A port whose pointer has moved one word on, with the record it stands in latched (R169). -/
theorem PortInRange.stepped {cap : Nat} {ps : PortState} (h : PortInRange cap ps) {ws : List Word}
    (hw : ws.length = recordWords ps.pointer.table) :
    PortInRange cap { ps with latch := some ws, pointer := stepPointer ps.pointer } := by
  obtain ⟨h1, h2, h3, h4, h5, -, -, h8⟩ := h
  refine ⟨h1, h2, h3, h4, ?_, ?_, fun _ => ⟨ws, rfl, ?_⟩, h8⟩
  · simpa using stepPointer_index_lt h5
  · simpa using stepPointer_offset_lt ps.pointer
  · simpa using hw

/-- One word read is a move of the pointer, with the record latched at its first word, and free values drawn. -/
theorem readWord_eq (p : Port) (s : State) : ∃ n, (readWord p s).2 = modPort p (fun ps =>
    { ps with
      latch := if ps.pointer.offset = 0 then some (recordOf s ps.pointer.table ps.pointer.index) else ps.latch
      pointer := stepPointer ps.pointer }) { s with freeCount := n } := by
  by_cases h0 : (portOf s p).pointer.offset = 0
  · by_cases ht : (portOf s p).pointer.table = .channel
    · refine ⟨s.freeCount + 1, ?_⟩
      cases p <;> simp_all [readWord, latchRecord, modPort, portOf]
    · refine ⟨s.freeCount, ?_⟩
      cases p <;> simp_all [readWord, latchRecord, modPort, portOf]
  · refine ⟨s.freeCount, ?_⟩
    cases p <;> simp_all [readWord, latchRecord, modPort, portOf]

theorem keeps_readWord (p : Port) (s : State) : Keeps s (readWord p s).2 := by
  obtain ⟨n, he⟩ := readWord_eq p s
  rw [he]
  refine (keeps_write s ..).trans (keeps_modPort rfl fun h => ?_)
  obtain ⟨-, -, -, -, -, -, hlatch, -⟩ := id h
  split
  · exact h.stepped (recordOf_length s _ _)
  · rename_i h0
    obtain ⟨ws, hws, hlen⟩ := hlatch h0
    rw [hws]
    exact h.stepped hlen

theorem keeps_readWords (p : Port) (n : Nat) (s : State) : Keeps s (readWords p n s).2 := by
  induction n generalizing s with
  | zero => exact .refl s
  | succ n ih => exact (keeps_readWord p s).trans (ih _)

theorem readWords_length (p : Port) (n : Nat) (s : State) : (readWords p n s).1.length = n := by
  induction n generalizing s with
  | zero => rfl
  | succ n ih => simp [readWords, ih]

theorem keeps_doRead (p : Port) (arg : Word) (s : State) : Keeps s (doRead p arg s) := by
  unfold doRead
  simp only
  split
  · rename_i hn
    exact (keeps_readWords p _ s).trans (keeps_done p _ (by rw [readWords_length]; exact hn.2) _)
  · exact keeps_refuse ..

/-! ### Edits -/

theorem quiet_appendEdit (p : Port) {content : EditContent} {s : State}
    (hc : ∀ tag, EditInRange { poster := p, tag := tag, content := content }) (hlen : s.edits.length < editCapacity) :
    Quiet s (appendEdit p content s) := by
  refine Quiet.trans ?_ (keeps_doneWord p _ _ _).toQuiet
  have hedits : ∀ {P : Edit → Prop}, (∀ e ∈ s.edits, P e) →
      P { poster := p, tag := (portOf s p).tagCounter, content := content } →
      ∀ e ∈ s.edits ++ [{ poster := p, tag := (portOf s p).tagCounter, content := content }], P e := by
    intro P h1 h2 e he
    rcases List.mem_append.1 he with he | he
    · exact h1 e he
    · rw [List.mem_singleton.1 he]
      exact h2
  have hlen' : ∀ e, (s.edits ++ [e]).length ≤ 16 := fun e => by rw [List.length_append]; exact hlen
  have hmod : ∀ n, n % 65536 < 65536 := fun n => Nat.mod_lt _ (by decide)
  cases p with
  | service =>
    refine ⟨rfl, fun h => ⟨h.reserve, h.pending, h.life⟩, fun h => hedits h (hc _), ?_, fun _ => .refl _⟩
    rintro ⟨⟨h1, h2, h3, htag, h4⟩, henergy, -, htags, h⟩
    exact ⟨⟨h1, h2, h3, hmod _, h4⟩, henergy, hlen' _, hedits htags htag, h⟩
  | energy =>
    refine ⟨rfl, fun h => ⟨h.reserve, h.pending, h.life⟩, fun h => hedits h (hc _), ?_, fun _ => .refl _⟩
    rintro ⟨hservice, ⟨h1, h2, h3, htag, h4⟩, -, htags, h⟩
    exact ⟨hservice, ⟨h1, h2, h3, hmod _, h4⟩, hlen' _, hedits htags htag, h⟩

theorem keeps_doPost (p : Port) (w1 w2 : Word) (s : State) : Keeps s (doPost p w1 w2 s) := by
  unfold doPost
  split
  · exact keeps_refuse ..
  · split
    · exact keeps_refuse ..
    · split
      · exact keeps_refuse ..
      · rename_i k _ _ content hwords
        split
        · exact keeps_refuse ..
        · rename_i hlen
          refine (quiet_appendEdit p (editInRange_of_words hwords p) (Nat.lt_of_not_le hlen)).keeps fun c => ?_
          cases p <;> rfl

theorem keeps_doCancelEdits (p : Port) (s : State) : Keeps s (doCancelEdits p s) :=
  (keeps_removeEdits p s).trans (keeps_doneWord p _ _ _)

/-! ### Channel commands -/

theorem keeps_channelCommand {p : Port} {cmd : Cmd} {arg : Word} {s : State} {act : Chan → State} (h : ∀ c, Keeps s (act c)) :
    Keeps s (channelCommand p cmd arg s act) := by
  unfold channelCommand
  split
  · split
    · exact h _
    · exact keeps_refuse ..
  · exact keeps_refuse ..

theorem keeps_doneChan (p : Port) (cmd : Cmd) (c : Chan) (s : State) : Keeps s (doneChan p cmd c s) :=
  keeps_doneWord p cmd _ s

theorem keeps_appendProbe (r : ProbeRequest) (s : State) : Keeps s (appendProbe r s) := (keeps_write s ..).trans (keeps_look _)

theorem keeps_doProbe (p : Port) (arg : Word) (s : State) : Keeps s (doProbe p arg s) := by
  refine keeps_channelCommand fun c => ?_
  simp only
  split
  · exact keeps_refuse ..
  · split
    · exact keeps_refuse ..
    · split
      · exact keeps_doneWord p _ _ s
      · split
        · exact (keeps_appendProbe _ s).trans (keeps_doneWord p _ _ _)
        · exact keeps_refuse ..

theorem keeps_wake (c : Chan) (s : State) : Keeps s (modChan c wakeChannel s) :=
  keeps_modChan ⟨rfl, .inr rfl, rfl, rfl, id⟩ fun _ h => h.wakeChannel

theorem keeps_doWake (p : Port) (arg : Word) (s : State) : Keeps s (doWake p arg s) := by
  refine keeps_channelCommand fun c => ?_
  simp only
  split
  · exact ((keeps_wake c s).trans (keeps_cancelProbe c _)).trans (keeps_doneChan ..)
  · exact keeps_refuse ..

theorem keeps_doRetire (p : Port) (arg : Word) (s : State) : Keeps s (doRetire p arg s) := by
  refine keeps_channelCommand fun c => ?_
  split
  · exact keeps_refuse ..
  · exact ((keeps_enterRetired c s).trans (keeps_cancelProbe c _)).trans (keeps_doneChan ..)

theorem keeps_clearStrikes (c : Chan) (s : State) : Keeps s (modChan c (fun ch => { ch with strikes := 0 }) s) := by
  refine keeps_modChan ⟨rfl, .inl rfl, rfl, rfl, id⟩ fun _ h => ?_
  obtain ⟨hp, hl⟩ := (channelInRange_iff _).1 h
  exact (channelInRange_iff _).2 ⟨{ hp with strikes := Nat.zero_le _ }, { hl with }⟩

theorem keeps_doRelease (p : Port) (arg : Word) (s : State) : Keeps s (doRelease p arg s) := by
  refine keeps_channelCommand fun c => ?_
  split
  · exact ((keeps_clearStrikes c s).trans (keeps_enterDark ..)).trans (keeps_doneChan ..)
  · exact keeps_refuse ..

theorem keeps_doClearFault (p : Port) (arg : Word) (s : State) : Keeps s (doClearFault p arg s) := by
  refine keeps_channelCommand fun c => ?_
  split
  · exact keeps_refuse ..
  · split
    · exact (keeps_enterDark ..).trans (keeps_doneChan ..)
    · exact keeps_refuse ..

theorem keeps_requestTest (c : Chan) {d : Nat} (h1 : 1 ≤ d) (h15 : d ≤ 15) (s : State) :
    Keeps s (modChan c (requestTest d) s) := keeps_modChan ⟨rfl, .inl rfl, rfl, rfl, id⟩ fun _ h => h.requestTest h1 h15

theorem keeps_doTest (p : Port) (arg : Word) (s : State) : Keeps s (doTest p arg s) := by
  refine keeps_channelCommand fun c => ?_
  simp only
  split
  · exact keeps_refuse ..
  · rename_i hd
    split
    · exact keeps_refuse ..
    · split
      · exact keeps_refuse ..
      · split
        all_goals
          split
          · exact keeps_refuse ..
          · exact (keeps_requestTest c (by omega) (by omega) s).trans (keeps_doneChan ..)

theorem ChannelInRange.withoutBeginTest {ch : Channel} (h : ChannelInRange ch) :
    ChannelInRange { ch with
      test := none
      mailbox := if ch.test.isSome then ch.mailbox.filter fun m => m.cmd ≠ .beginTest else ch.mailbox } := by
  refine h.withoutTest.withMailbox _ fun m hm => ((channelInRange_iff ch).1 h).1.mailbox m ?_
  split at hm
  · exact (Option.filter_eq_some_iff.1 hm).1
  · exact hm

theorem keeps_endTest (c : Chan) (o : TestOutcome) (s : State) : Keeps s (endTest c o s) :=
  (quiet_endTest c o s).keeps_one c (fun d hd => by rw [chanAt_endTest, if_neg hd]) fun _ h => by
    rw [chanAt_endTest, if_pos rfl]
    exact h.withoutBeginTest

theorem keeps_doAbortTest (p : Port) (arg : Word) (s : State) : Keeps s (doAbortTest p arg s) := by
  refine keeps_channelCommand fun c => ?_
  simp only
  split
  · exact keeps_refuse ..
  · rename_i t ht
    split
    · split
      · exact keeps_refuse ..
      · exact (keeps_endTest ..).trans (keeps_doneChan ..)
    · rename_i hphase
      exact (keeps_modChan ⟨rfl, .inr rfl, rfl, rfl, id⟩ fun _ h => h.resumeChannel true (by simp [ht, hphase])).trans
        (keeps_doneChan ..)
    · exact keeps_refuse ..

theorem keeps_doSend (p : Port) (arg : Word) (s : State) : Keeps s (doSend p arg s) := by
  refine keeps_channelCommand fun c => ?_
  simp only
  split
  · exact keeps_refuse ..
  · split
    · exact keeps_refuse ..
    · rename_i hd
      split
      · exact keeps_refuse ..
      · split
        · exact keeps_refuse ..
        · refine (keeps_modChan ⟨rfl, .inl rfl, rfl, rfl, id⟩ fun _ h => h.withMailbox _ fun m hm => ?_).trans
            (keeps_doneChan ..)
          cases hm
          exact Nat.le_of_not_lt fun h0 => hd (.inl h0)

/-! ### The energy account's commands -/

theorem keeps_doSetGrant (p : Port) (arg : Word) (s : State) : Keeps s (doSetGrant p arg s) := by
  unfold doSetGrant
  simp only
  split
  · split
    · rename_i hg
      refine Keeps.trans ?_ (keeps_done p _ (Nat.zero_le _) _)
      refine Quiet.keeps ⟨rfl, fun h => ⟨h.reserve, hg, Nat.le_of_lt_succ (bits_lt 31 24 arg)⟩, id, id, fun _ => .refl _⟩ ?_
      exact fun _ => rfl
    · exact keeps_refuse ..
  · exact keeps_refuse ..

theorem keeps_reserve {rp : Nat} (h : rp ≤ 4000000000) (s : State) : Keeps s { s with reserve := rp } :=
  Quiet.keeps ⟨rfl, fun hs => ⟨h, hs.pending, hs.life⟩, id, id, fun _ => .refl _⟩ fun _ => rfl

theorem keeps_doDeposit (p : Port) (arg : Word) (s : State) : Keeps s (doDeposit p arg s) := by
  unfold doDeposit
  simp only
  split
  · split
    · have hrp := keeps_reserve (rp := min reserveCap (s.reserve + bits 31 0 arg * 1000)) (Nat.min_le_left _ _) s
      refine Keeps.trans ?_ (keeps_doneWord p _ _ _)
      split
      · exact hrp.trans (keeps_report ..)
      · exact hrp
    · exact keeps_refuse ..
  · exact keeps_refuse ..

theorem keeps_doDrain (p : Port) (s : State) : Keeps s (doDrain p s) := by
  unfold doDrain
  split
  · exact (keeps_reserve (Nat.zero_le _) s).trans (keeps_doneWord p _ _ _)
  · exact keeps_refuse ..

/-! ### Execution and framing -/

theorem keeps_runCommand (cmd : Cmd) (p : Port) (args : List Word) (s : State) : Keeps s (runCommand cmd p args s) := by
  cases cmd with
  | nop => exact keeps_doNop p s
  | status => exact keeps_doStatus p s
  | seek => exact keeps_doSeek p _ s
  | read => exact keeps_doRead p _ s
  | take => exact keeps_doTake p s
  | ack => exact keeps_doAck p _ s
  | mask => exact keeps_doMask p _ s
  | watermark => exact keeps_doWatermark p _ s
  | vote => exact keeps_doVote p _ s
  | resetPort => exact keeps_doResetPort p s
  | post => exact keeps_doPost p _ _ s
  | cancelEdits => exact keeps_doCancelEdits p s
  | probe => exact keeps_doProbe p _ s
  | wake => exact keeps_doWake p _ s
  | retire => exact keeps_doRetire p _ s
  | release => exact keeps_doRelease p _ s
  | clearFault => exact keeps_doClearFault p _ s
  | test => exact keeps_doTest p _ s
  | abortTest => exact keeps_doAbortTest p _ s
  | send => exact keeps_doSend p _ s
  | setGrant => exact keeps_doSetGrant p _ s
  | deposit => exact keeps_doDeposit p _ s
  | drain => exact keeps_doDrain p s

theorem keeps_refuseUnknown (p : Port) (code : Byte) (s : State) : Keeps s (refuseUnknown p code s) :=
  keeps_reply p _ _ (Nat.zero_le _) s

theorem keeps_passWord (t : ServiceTransaction) (f : ServiceTransaction → ServiceTransaction) (s : State) :
    Keeps s (passWord t f s) := keeps_write s ..

theorem keeps_serviceWord (w : Word) (s : State) : Keeps s (serviceWord w s) := by
  unfold serviceWord
  split
  · exact .refl s
  · split
    · exact keeps_passWord ..
    · split
      · split
        · exact (keeps_passWord ..).trans (keeps_refuseUnknown ..)
        · split
          · exact (keeps_passWord ..).trans (keeps_runCommand ..)
          · exact keeps_passWord ..
      · split
        · exact keeps_passWord ..
        · split
          · exact (keeps_passWord ..).trans (keeps_runCommand ..)
          · exact keeps_passWord ..

theorem keeps_serviceSelect (s : State) : Keeps s (serviceSelect s) := by
  unfold serviceSelect
  split
  · exact .refl s
  · refine Quiet.keeps ⟨rfl, fun h => ⟨h.reserve, h.pending, h.life⟩, id, ?_, fun _ => .refl _⟩ fun _ => rfl
    rintro ⟨⟨h1, h2, h3, h4, h5, h6, h7, -⟩, h⟩
    exact ⟨⟨h1, h2, h3, h4, h5, h6, h7, fun _ h0 => nomatch h0⟩, h⟩

theorem keeps_serviceDeselect (s : State) : Keeps s (serviceDeselect s) := by
  unfold serviceDeselect
  split
  · exact .refl s
  · simp only
    split
    · exact keeps_write s ..
    · split
      · exact keeps_write s ..
      · exact (keeps_write s ..).trans (keeps_reply .service _ _ (Nat.zero_le _) _)

/-- A byte assembly replaced by one in range. -/
theorem keeps_assembly {a : Assembly} {s : State} (h : AssemblyInRange s.assembly → AssemblyInRange a) :
    Keeps s { s with assembly := a } := by
  refine Quiet.keeps ⟨rfl, fun h => ⟨h.reserve, h.pending, h.life⟩, id, ?_, fun _ => .refl _⟩ fun _ => rfl
  rintro ⟨h1, h2, h3, h4, h5, h6⟩
  exact ⟨h1, h2, h3, h4, h h5, h6⟩

theorem keeps_assemblyReset (s : State) : Keeps s { s with assembly := .reset } := keeps_assembly fun _ => assemblyInRange_reset

theorem part_length_of_wordOfPart_none {part : List Byte} (h : part.length ≤ 3) {b : Byte} (hw : wordOfPart (part ++ [b]) = none) :
    (part ++ [b]).length ≤ 3 := by
  match part, h with
  | [], _ => simp
  | [_], _ => simp
  | [_, _], _ => simp
  | [_, _, _], _ => cases hw

theorem keeps_joinByte (b : Byte) (s : State) : Keeps s (joinByte b s) := by
  unfold joinByte
  simp only
  split
  · exact .refl s
  · rename_i code hcode
    split
    · rename_i hpart
      refine keeps_assembly fun h => ?_
      simp only [AssemblyInRange, hcode] at h ⊢
      exact ⟨h.1, part_length_of_wordOfPart_none h.2 hpart⟩
    · split
      · split
        · exact (keeps_assemblyReset s).trans (keeps_runCommand ..)
        · exact keeps_assemblyReset s
      · rename_i hlen
        refine keeps_assembly fun h => ?_
        simp only [AssemblyInRange, hcode] at h ⊢
        exact ⟨Nat.lt_of_not_le hlen, Nat.zero_le _⟩

theorem keeps_lone {lone : Bool} {s : State} (h : lone = true → s.assembly.cmd ≠ none) :
    Keeps s { s with assembly := { s.assembly with lone := lone } } := by
  refine keeps_assembly fun ha => ?_
  cases hcmd : s.assembly.cmd with
  | none =>
    have hl : lone = false := by
      cases lone
      · rfl
      · exact absurd hcmd (h rfl)
    simp only [AssemblyInRange, hcmd] at ha ⊢
    exact ⟨ha.1, ha.2.1, hl⟩
  | some code =>
    simp only [AssemblyInRange, hcmd] at ha ⊢
    exact ha

theorem keeps_flushLone (s : State) : Keeps s (flushLone s) := by
  unfold flushLone
  split
  · exact (keeps_lone (lone := false) fun h => nomatch h).trans (keeps_joinByte ..)
  · exact .refl s

theorem keeps_countByte (n : Nat) (s : State) : Keeps s (countByte n s) := keeps_write s ..

theorem keeps_takeCommandByte (b : Byte) (s : State) : Keeps s (takeCommandByte b s) := by
  unfold takeCommandByte
  split
  · exact keeps_refuseUnknown ..
  · rename_i cmd hcmd
    split
    · exact keeps_runCommand ..
    · rename_i hargs
      refine keeps_assembly fun _ => ⟨?_, Nat.zero_le _⟩
      simpa [argWordsOf, hcmd] using Nat.pos_of_ne_zero hargs

theorem keeps_energyByte (b : Byte) (s : State) : Keeps s (energyByte b s) := by
  unfold energyByte
  split
  · exact .refl s
  · exact .refl s
  · rename_i n _
    have hcount := (keeps_flushLone s).trans (keeps_countByte n _)
    simp only
    split
    · exact hcount.trans (keeps_takeCommandByte ..)
    · rename_i hcmd
      split
      · refine hcount.trans (keeps_lone fun _ h0 => hcmd ?_)
        rw [h0]
        rfl
      · exact hcount.trans (keeps_joinByte ..)

theorem keeps_loneStatus (s : State) : Keeps s (loneStatus s) := (keeps_assemblyReset s).trans (keeps_doStatus ..)

theorem keeps_energyStop (s : State) : Keeps s (energyStop s) := by
  unfold energyStop
  split
  · refine Keeps.trans ?_ (keeps_write _ ..)
    split
    · exact keeps_loneStatus s
    · exact .refl s
  · exact keeps_write s ..
  · exact keeps_write s ..

theorem keeps_energyAddressed (b : Byte) (s : State) : Keeps s (energyAddressed b s) := by
  unfold energyAddressed
  simp only
  split
  · exact (keeps_energyStop s).trans (keeps_write _ ..)
  · exact (keeps_energyStop s).trans (keeps_write _ ..)

theorem replyBytes_length (r : Reply) : (replyBytes r).length = 4 * (r.words.length + 1) := by
  have h : ∀ ws : List Word, (ws.flatMap bytesOf).length = 4 * ws.length := by
    intro ws
    induction ws with
    | nil => rfl
    | cons w ws ih => simp only [List.flatMap_cons, List.length_append, ih, List.length_cons, bytesOf]; simp; omega
  exact h (replyWords r)

theorem keeps_energyReadByte (s : State) : Keeps s (energyReadByte s) := by
  unfold energyReadByte
  split
  · exact .refl s
  · exact .refl s
  · split
    · exact keeps_write s ..
    · rename_i r hr
      simp only
      split
      · rename_i hlt
        refine Quiet.keeps ⟨rfl, fun h => ⟨h.reserve, h.pending, h.life⟩, id, ?_, fun _ => .refl _⟩ fun _ => rfl
        rintro ⟨h1, h2, h3, h4, h5, -, -⟩
        refine ⟨h1, h2, h3, h4, h5, fun h0 => ?_, fun r' h0 => ?_⟩
        · rw [hr] at h0
          cases h0
        · rw [hr] at h0
          cases h0
          exact replyBytes_length r ▸ hlt
      · refine Quiet.keeps ⟨rfl, fun h => ⟨h.reserve, h.pending, h.life⟩, id, ?_, fun _ => .refl _⟩ fun _ => rfl
        rintro ⟨h1, ⟨e1, e2, e3, e4, e5, e6, e7, -⟩, h3, h4, h5, -⟩
        exact ⟨h1, ⟨e1, e2, e3, e4, e5, e6, e7, fun _ h0 => nomatch h0⟩, h3, h4, h5, fun _ => rfl, fun _ h0 => nomatch h0⟩

theorem keeps_commandTaken (p : Port) (s : State) : Keeps s (commandTaken p s) := by
  cases p with
  | service =>
    obtain ⟨tr, sd, h⟩ := commandTaken_service_frame s
    rw [h]
    exact keeps_write s ..
  | energy =>
    unfold commandTaken
    simp only
    split
    · exact ((keeps_flushLone s).trans (keeps_countByte ..)).trans (keeps_assemblyReset _)
    · exact keeps_flushLone s
    · exact keeps_flushLone s

theorem keeps_atPort {p : Port} {cmd : Cmd} {args : List Word} {act : State → State} (h : ∀ t, Keeps t (act t)) (s : State) :
    Keeps s (atPort p cmd args act s) := by
  unfold atPort
  split
  · exact (keeps_commandTaken p s).trans (h _)
  · exact .refl s

end Sys2Proof.Machine
end

/-! ## The steps of lines, switches and probes keep the frame; every step but the timebase's own does -/

section
namespace Sys2Proof.Machine

/-! ### Outcomes of exchanges -/

theorem quiet_countAttemptMod (c : Chan) (s : State) : Quiet s (modChan c (fun ch => { ch with attempts := ch.attempts + 1 }) s) :=
  quiet_modChan ⟨rfl, .inl rfl, rfl, rfl, id⟩

/-- A miss in WAKING: the attempt that reaches the limit, at most 7, is the one that leaves WAKING (R91). -/
theorem keeps_countAttempt {c : Chan} {s : State} (hw : (chanAt s c).life = .waking) : Keeps s (countAttempt c s) := by
  have hparts : ∀ {ch : Channel}, ch.life = .waking → ChannelInRange ch → PartsInRange { ch with attempts := ch.attempts + 1 } := by
    intro ch hlife h
    obtain ⟨hp, hl⟩ := (channelInRange_iff ch).1 h
    exact { hp with attempts := Nat.succ_le_succ (hl.attempts hlife) }
  unfold countAttempt
  simp only
  split
  · refine ((quiet_countAttemptMod c s).trans (quiet_enterDark ..)).keeps_one c (fun d hd => ?_) fun _ h => ?_
    · rw [chanAt_enterDark, if_neg hd, chanAt_modChan_other hd]
    · rw [chanAt_enterDark, if_pos rfl, chanAt_modChan_self]
      exact channelInRange_dark _ _ _ (hparts hw h)
  · rename_i hlimit
    refine keeps_modChan ⟨rfl, .inl rfl, rfl, rfl, id⟩ fun _ h => ?_
    have hp := hparts hw h
    obtain ⟨-, hl⟩ := (channelInRange_iff _).1 h
    rw [chanAt_modChan_self] at hlimit
    obtain ⟨-, hmax, -, -⟩ := hp.cfg
    exact (channelInRange_iff _).2 ⟨hp, { hl with attempts := fun _ => by simp only at hlimit hmax ⊢; omega }⟩

theorem keeps_goOpenLoad (c : Chan) (s : State) : Keeps s (goOpenLoad c s) := by
  unfold goOpenLoad
  exact keeps_enterDark ..

/-- A miss in FED or RESUMING: the third leaves the powered states (R92). -/
theorem keeps_countMiss {c : Chan} {s : State} (hw : (chanAt s c).life = .fed ∨ (chanAt s c).life = .resuming) :
    Keeps s (countMiss c s) := by
  have hparts : ∀ {ch : Channel}, ch.life = .fed ∨ ch.life = .resuming → ChannelInRange ch →
      PartsInRange { ch with misses := ch.misses + 1 } := by
    intro ch hlife h
    obtain ⟨hp, hl⟩ := (channelInRange_iff ch).1 h
    exact { hp with misses := Nat.succ_le_succ (hl.misses (or_assoc.1 (.inl hlife))) }
  unfold countMiss goSilent
  simp only
  split
  · refine Quiet.keeps_one ((quiet_modChan ⟨rfl, .inl rfl, rfl, rfl, id⟩).trans (quiet_enterDark ..)) c (fun d hd => ?_)
      fun _ h => ?_
    · rw [chanAt_enterDark, if_neg hd, chanAt_modChan_other hd]
    · rw [chanAt_enterDark, if_pos rfl, chanAt_modChan_self]
      exact channelInRange_dark _ _ _ (hparts hw h)
  · rename_i hlimit
    refine keeps_modChan ⟨rfl, .inl rfl, rfl, rfl, id⟩ fun _ h => ?_
    obtain ⟨-, hl⟩ := (channelInRange_iff _).1 h
    rw [chanAt_modChan_self] at hlimit
    exact (channelInRange_iff _).2 ⟨hparts hw h, { hl with misses := fun _ => Nat.le_of_lt_succ (Nat.lt_of_not_le hlimit) }⟩

theorem keeps_missAction (c : Chan) (s : State) : Keeps s (missAction c s) := by
  unfold missAction
  split
  · exact keeps_countAttempt (by assumption)
  · exact keeps_countMiss (.inl (by assumption))
  · exact keeps_countMiss (.inr (by assumption))
  all_goals exact .refl s

theorem keeps_feedChannel (c : Chan) (s : State) : Keeps s (modChan c feedChannel s) :=
  keeps_modChan ⟨rfl, .inl rfl, rfl, rfl, id⟩ fun _ h => h.feedChannel

theorem keeps_emptyMailbox (c : Chan) (s : State) : Keeps s (modChan c (fun ch => { ch with mailbox := none }) s) :=
  keeps_modChan ⟨rfl, .inl rfl, rfl, rfl, id⟩ fun _ h => h.withMailbox none fun _ h0 => nomatch h0

theorem keeps_removeTest (c : Chan) (s : State) : Keeps s (modChan c (fun ch => { ch with test := none }) s) :=
  keeps_modChan ⟨rfl, .inl rfl, rfl, rfl, id⟩ fun _ h => h.withoutTest

theorem keeps_removeTestMailbox (c : Chan) (s : State) :
    Keeps s (modChan c (fun ch => { ch with test := none, mailbox := none }) s) :=
  keeps_modChan ⟨rfl, .inl rfl, rfl, rfl, id⟩ fun _ h => h.withoutTest.withMailbox none fun _ h0 => nomatch h0

theorem keeps_helloAnswer (c : Chan) (a : Answer) (s : State) : Keeps s (helloAnswer c a s) :=
  (keeps_feedChannel c s).trans (keeps_reportChan ..)

theorem keeps_resultAnswer (c : Chan) (a : Answer) (s : State) : Keeps s (resultAnswer c a s) := by
  unfold resultAnswer
  refine Keeps.trans ?_ (keeps_feedChannel c _)
  split
  · exact (keeps_removeTest c s).trans (keeps_reportChan ..)
  · exact .refl s

theorem keeps_settleMailbox (c : Chan) (o : MailOutcome) (m : Mailbox) (n : Nat) (f : Option StatusFields) (s : State) :
    Keeps s (settleMailbox c o m n f s) := (keeps_emptyMailbox c s).trans (keeps_reportChan ..)

theorem keeps_refuseTest (c : Chan) (a : Answer) (s : State) : Keeps s (refuseTest c a s) := by
  unfold refuseTest
  split
  · exact (keeps_removeTestMailbox c s).trans (keeps_reportChan ..)
  · exact keeps_emptyMailbox c s

/-- The ACK to BEGIN_TEST: the departure leaves the counts of FED in the middle, TESTING takes them (R136). -/
theorem keeps_beginTest (c : Chan) {band : Nat} (hb : band ≤ 15) (s : State) :
    Keeps s (modChan c (testChannel band) (depart c s)) := by
  refine ((quiet_depart c s).trans (quiet_modChan ⟨rfl, .inl rfl, rfl, rfl, id⟩)).keeps_one c (fun d hd => ?_) fun _ h => ?_
  · rw [chanAt_modChan_other hd, depart_eq, chanAt_modChan_other hd]
  · rw [chanAt_modChan_self, depart_eq, chanAt_modChan_self]
    exact channelInRange_testChannel (((channelInRange_iff _).1 h).1.departed _ _) hb

theorem keeps_fedAnswer (c : Chan) (e : Exchange) {a : Answer} (ha : AnswerInRange a) (s : State) :
    Keeps s (fedAnswer c e a s) := by
  have hmisses : Keeps s (modChan c (fun ch => { ch with misses := 0 }) s) :=
    keeps_modChan ⟨rfl, .inl rfl, rfl, rfl, id⟩ fun _ h => h.withoutMisses
  unfold fedAnswer
  refine hmisses.trans ?_
  cases e.cmd with
  | keep => exact .refl _
  | wake => exact .refl _
  | resultQuery => exact .refl _
  | query => exact keeps_settleMailbox ..
  | aux n => exact keeps_settleMailbox ..
  | doze =>
    simp only
    split
    · exact (keeps_emptyMailbox c _).trans (keeps_enterDark ..)
    · exact keeps_settleMailbox ..
  | beginTest =>
    simp only
    split
    · exact keeps_beginTest c ha.band _
    · exact keeps_refuseTest ..

theorem keeps_validAction (c : Chan) (e : Exchange) {a : Answer} (ha : AnswerInRange a) (s : State) :
    Keeps s (validAction c e a s) := by
  unfold validAction
  split
  · exact keeps_helloAnswer ..
  · exact keeps_fedAnswer c e ha s
  · exact keeps_resultAnswer ..
  all_goals exact .refl s

theorem keeps_refreshStatus (c : Chan) {a : Answer} (ha : AnswerInRange a) (s : State) : Keeps s (refreshStatus c a s) :=
  keeps_modChan ⟨rfl, .inl rfl, rfl, rfl, id⟩ fun hf h =>
    h.withStatus (statusInRange_refreshed hf ha ((channelInRange_iff _).1 h).1.status)

theorem keeps_reportChange (c : Chan) (a : Answer) (frame : Nat) (old : Option StatusRecord) (s : State) :
    Keeps s (reportChange c a frame old s) := by
  unfold reportChange
  split
  · exact keeps_reportChan ..
  · exact .refl s

theorem keeps_flipSeq (c : Chan) (s : State) : Keeps s (modChan c (fun ch => { ch with seq := !ch.seq }) s) :=
  keeps_modChan ⟨rfl, .inl rfl, rfl, rfl, id⟩ fun _ h => by
    obtain ⟨hp, hl⟩ := (channelInRange_iff _).1 h
    exact (channelInRange_iff _).2 ⟨{ hp with }, { hl with }⟩

theorem keeps_exchangeOutcome (c : Chan) (e : Exchange) (o : ExchangeOutcome) {answer : Option Answer}
    (ha : ∀ a, answer = some a → AnswerInRange a) (s : State) : Keeps s (exchangeOutcome c e o answer s) := by
  unfold exchangeOutcome
  split
  · rename_i a
    exact (((keeps_refreshStatus c (ha a rfl) s).trans (keeps_flipSeq ..)).trans (keeps_validAction c e (ha a rfl) _)).trans
      (keeps_reportChange ..)
  · rename_i a
    exact ((keeps_refreshStatus c (ha a rfl) s).trans (keeps_missAction ..)).trans (keeps_reportChange ..)
  · exact keeps_missAction ..

/-! ### The steps of the line exchange units -/

theorem keeps_exchangeStart (c : Chan) (s : State) : Keeps s (exchangeStart c s) := by
  unfold exchangeStart
  simp only
  split
  · split
    · exact keeps_modChan ⟨rfl, .inl rfl, rfl, rfl, id⟩ fun _ h => h.startExchange _
    · exact .refl s
  · exact .refl s

/-- The exchange in flight moves on with its command and argument. -/
theorem keeps_setExchange (c : Chan) {e e' : Exchange} {s : State} (h : (chanAt s c).exchange = some e) (ha : e'.arg = e.arg) :
    Keeps s (setExchange c e' s) :=
  keeps_modChan ⟨rfl, .inl rfl, rfl, rfl, id⟩ fun _ hc =>
    hc.withExchange _ (fun x hx => by cases hx; exact ha ▸ ((channelInRange_iff _).1 hc).1.exchange e h) _

theorem keeps_takeExchange (c : Chan) (inside : Bool) (s : State) : Keeps s (modChan c (takeExchange inside) s) :=
  keeps_modChan ⟨rfl, .inl rfl, rfl, rfl, id⟩ fun _ hc => hc.withExchange none (fun _ h0 => nomatch h0) _

theorem keeps_downlinkEnd (c : Chan) (baseline : Nat) (s : State) : Keeps s (downlinkEnd c baseline s) := by
  unfold downlinkEnd
  split
  · rename_i e he
    split
    · exact keeps_setExchange c he rfl
    · exact .refl s
  · exact .refl s

theorem keeps_answerStart (c : Chan) (instant : Fin 1001) (rise : Rise) (s : State) : Keeps s (answerStart c instant rise s) := by
  unfold answerStart
  simp only
  split
  · rename_i e he
    split
    · exact keeps_setExchange c he rfl
    · exact .refl s
  · exact .refl s

theorem keeps_windowExpiry (c : Chan) (s : State) : Keeps s (windowExpiry c s) := by
  unfold windowExpiry
  split
  · split
    · exact (keeps_takeExchange ..).trans (keeps_exchangeOutcome c _ _ (answer := none) (fun _ h0 => nomatch h0) _)
    · exact .refl s
  · exact .refl s

theorem keeps_uplinkEnd (c : Chan) (average : Nat) (s : State) : Keeps s (uplinkEnd c average s) := by
  unfold uplinkEnd
  split
  · split
    · exact (keeps_takeExchange ..).trans (keeps_exchangeOutcome c _ _ (fun _ => answerInRange_of_classify) _)
    · exact .refl s
  · exact .refl s

/-! ### The steps of the feed switches -/

/-- A switch that stays in its ranges and keeps its open-load count. -/
theorem keeps_modSwitch {c : Chan} {f : FeedSwitch → FeedSwitch} {s : State}
    (hs : SwitchInRange (chanAt s c).sw → SwitchInRange (f (chanAt s c).sw))
    (ho : (f (chanAt s c).sw).openLoad = (chanAt s c).sw.openLoad) : Keeps s (modSwitch c f s) :=
  keeps_modChan ⟨rfl, .inl rfl, rfl, rfl, id⟩ fun _ h => h.withSwitch (hs ((channelInRange_iff _).1 h).1.sw) ho

theorem keeps_openLoadLost (c : Chan) (s : State) : Keeps s (openLoadLost c s) := by
  unfold openLoadLost
  simp only
  split
  · exact keeps_goOpenLoad c s
  · exact .refl s

theorem keeps_switchOnComplete (c : Chan) (s : State) : Keeps s (switchOnComplete c s) := by
  unfold switchOnComplete
  split
  · split
    · exact keeps_modSwitch (fun h => h.complete _) (completeSwitch_openLoad _ _)
    · exact .refl s
  · exact .refl s

theorem keeps_rampEnd (c : Chan) (s : State) : Keeps s (rampEnd c s) := by
  unfold rampEnd
  simp only
  split
  · split
    · exact keeps_modSwitch id rfl
    · exact .refl s
  · exact .refl s

theorem keeps_chopPeriodStart (c : Chan) (s : State) : Keeps s (chopPeriodStart c s) := by
  unfold chopPeriodStart
  simp only
  split
  · rename_i o ho
    split
    · exact keeps_modSwitch (fun h => h.chopped _ _ _ ho) (startChop_openLoad _ _ _ _ _)
    · exact .refl s
  · exact .refl s

theorem keeps_faultFromSwitch (c : Chan) (cause : StateCause) (s : State) : Keeps s (faultFromSwitch c cause s) := by
  unfold faultFromSwitch
  split
  · exact keeps_enterFaulted ..
  · exact .refl s

theorem keeps_tripAssert (c : Chan) (s : State) : Keeps s (tripAssert c s) := by
  unfold tripAssert
  simp only
  split
  · rename_i o d ho _
    split
    · have htrip : Keeps s (modSwitch c (tripSwitch d o) s) := keeps_modSwitch (fun h => h.tripped d ho) rfl
      split
      · exact htrip.trans (keeps_faultFromSwitch ..)
      · exact htrip
    · exact .refl s
  · exact .refl s

theorem keeps_overcurrentAssert (c : Chan) (s : State) : Keeps s (overcurrentAssert c s) := by
  unfold overcurrentAssert
  simp only
  split
  · split
    · exact keeps_faultFromSwitch ..
    · exact .refl s
  · exact .refl s

theorem sameMeasure_senseCurrent (t current : Nat) (ch : Channel) : SameMeasure ch (senseCurrent t current ch) := by
  unfold senseCurrent
  split <;> exact ⟨rfl, .inl rfl, rfl, rfl, id⟩

theorem ChannelInRange.senseCurrent (t current : Nat) {ch : Channel} (h : ChannelInRange ch) :
    ChannelInRange (senseCurrent t current ch) := by
  have hs := ((channelInRange_iff ch).1 h).1.sw
  unfold Machine.senseCurrent
  split <;> exact h.withSwitch hs rfl

theorem keeps_levelCrossing (c : Chan) (current : Nat) (instant : Fin 1001) (s : State) :
    Keeps s (levelCrossing c current instant s) := by
  unfold levelCrossing
  simp only
  split
  · exact keeps_modChan (sameMeasure_senseCurrent _ _ _) fun _ h => h.senseCurrent _ _
  · exact .refl s

/-! ### The steps of the probe engine -/

theorem keeps_setLine (c : Chan) (r : LineResult) (s : State) : Keeps s (modChan c (fun ch => { ch with line := r }) s) :=
  keeps_modChan ⟨rfl, .inl rfl, rfl, rfl, id⟩ fun _ h => by
    obtain ⟨hp, hl⟩ := (channelInRange_iff _).1 h
    exact (channelInRange_iff _).2 ⟨{ hp with }, { hl with }⟩

theorem keeps_setPair (c : Chan) (r : PairResult) (s : State) : Keeps s (modChan c (fun ch => { ch with pair := r }) s) :=
  keeps_modChan ⟨rfl, .inl rfl, rfl, rfl, id⟩ fun _ h => by
    obtain ⟨hp, hl⟩ := (channelInRange_iff _).1 h
    exact (channelInRange_iff _).2 ⟨{ hp with }, { hl with }⟩

theorem keeps_signature (c : Chan) (s : State) : Keeps s (modChan c (fun ch =>
    let ch := { ch with line := .signature }
    if ch.cfg.autoWake then wakeChannel ch else ch) s) := by
  have hline' : ∀ {ch : Channel}, ChannelInRange ch → ChannelInRange { ch with line := .signature } := by
    intro ch h
    obtain ⟨hp, hl⟩ := (channelInRange_iff ch).1 h
    exact (channelInRange_iff _).2 ⟨{ hp with }, { hl with }⟩
  refine keeps_modChan ?_ fun _ h => ?_
  · simp only
    split
    · exact ⟨rfl, .inr rfl, rfl, rfl, id⟩
    · exact ⟨rfl, .inl rfl, rfl, rfl, id⟩
  · simp only
    split
    · exact (hline' h).wakeChannel
    · exact hline' h

theorem keeps_actLine (c : Chan) (o : ProbeOutcome) (s : State) : Keeps s (actLine c o s) := by
  cases o with
  | short => exact (keeps_setLine ..).trans (keeps_enterFaulted ..)
  | foreign => exact (keeps_setLine ..).trans (keeps_enterFaulted ..)
  | signature => exact keeps_signature c s
  | openLine => exact keeps_setLine ..
  | clear => exact .refl s
  | crossed => exact .refl s
  | cancelled => exact .refl s
  | notQueued => exact .refl s

theorem keeps_crossChannel (c partner : Chan) (s : State) : Keeps s (crossChannel c partner s) :=
  (keeps_setPair ..).trans (keeps_enterFaulted ..)

theorem keeps_actPair (c partner : Chan) (crossed : Bool) (s : State) : Keeps s (actPair c partner crossed s) := by
  unfold actPair
  simp only
  split
  · split
    · exact (keeps_crossChannel ..).trans (keeps_crossChannel ..)
    · exact keeps_crossChannel ..
  · exact keeps_setPair ..

theorem keeps_endProbe (r : ProbeRequest) (o : ProbeOutcome) (v : Option Nat) (s : State) :
    Keeps s (reportProbe r o v { s with probe := none }) := (keeps_write s ..).trans (keeps_reportChan ..)

theorem keeps_probeEndLine (reading : Nat) (s : State) : Keeps s (probeEndLine reading s) := by
  unfold probeEndLine
  split
  · split
    · refine Keeps.trans ?_ (keeps_look _)
      exact .ite ((keeps_endProbe ..).trans (keeps_actLine ..)) (keeps_endProbe ..)
    · exact .refl s
  · exact .refl s

theorem keeps_probeEndPair (reading : Nat) (s : State) : Keeps s (probeEndPair reading s) := by
  unfold probeEndPair
  split
  · split
    · refine Keeps.trans ?_ (keeps_look _)
      exact .ite ((keeps_endProbe ..).trans (keeps_actPair ..)) (keeps_endProbe ..)
    · exact .refl s
  · exact .refl s

/-! ### Every step but those of reset and the timebase -/

/-- The steps of reset and of the timebase (chapters 1 and 3). -/
def timebaseStep : Instr → Bool
  | .deviceReset | .resetRelease _ _ | .sampleEvent _ _ | .slotEnd | .frameOpening | .slotStart => true
  | _ => false

/-- A step answers with a state that it keeps. -/
def AnswersKept (s : State) (o : Host.Outcome State Fault Refusal) : Prop := ∃ t, o = .next t ∧ Keeps s t

theorem answersKept_next {s t : State} (h : Keeps s t) : AnswersKept s (.next t) := ⟨t, rfl, h⟩

theorem answersKept_whenLive {s t : State} (h : Keeps s t) : AnswersKept s (whenLive s t) := by
  refine answersKept_next ?_
  split
  · exact .refl s
  · exact h

theorem answersKept_atPort {p : Port} {cmd : Cmd} {args : List Word} {act : State → State} (h : ∀ t, Keeps t (act t))
    (s : State) : AnswersKept s (.next (atPort p cmd args act s)) := answersKept_next (keeps_atPort h s)

theorem answersKept_unknownCommand (p : Port) (code : Byte) (s : State) : AnswersKept s (execUnknownCommand p code s) := by
  refine answersKept_next ?_
  split
  · exact (keeps_commandTaken p s).trans (keeps_refuseUnknown ..)
  · exact .refl s

theorem keeps_statusWrite (s : State) : Keeps s (statusWrite s) := by
  unfold statusWrite
  split
  · exact keeps_energyStop s
  · exact (keeps_energyByte ..).trans (keeps_energyStop _)

theorem answersKept_status (p : Port) (s : State) : AnswersKept s (execStatus p s) := by
  refine answersKept_next ?_
  split
  · exact keeps_statusWrite s
  · exact keeps_atPort (keeps_doStatus p) s

theorem answersKept_energyCommandByte (b : Byte) (s : State) : AnswersKept s (execEnergyCommandByte b s) := by
  refine answersKept_whenLive ?_
  split
  · exact keeps_energyByte b s
  · exact .refl s

theorem answersKept_energyArgumentByte (b : Byte) (s : State) : AnswersKept s (execEnergyArgumentByte b s) := by
  refine answersKept_whenLive ?_
  split
  · exact keeps_energyByte b s
  · exact .refl s

/-- What every step but those of reset and the timebase keeps. -/
theorem exec_keeps {i : Instr} (hi : timebaseStep i = false) (s : State) : AnswersKept s (exec i s) := by
  cases i with
  | deviceReset => cases hi
  | resetRelease => cases hi
  | sampleEvent => cases hi
  | slotEnd => cases hi
  | frameOpening => cases hi
  | slotStart => cases hi
  | openLoadLost c => exact answersKept_whenLive (keeps_openLoadLost c s)
  | switchOnComplete c => exact answersKept_whenLive (keeps_switchOnComplete c s)
  | rampEnd c => exact answersKept_whenLive (keeps_rampEnd c s)
  | chopPeriodStart c => exact answersKept_whenLive (keeps_chopPeriodStart c s)
  | tripAssert c => exact answersKept_whenLive (keeps_tripAssert c s)
  | overcurrentAssert c => exact answersKept_whenLive (keeps_overcurrentAssert c s)
  | detectorLevelCrossing c current instant => exact answersKept_whenLive (keeps_levelCrossing c current instant s)
  | exchangeStart c => exact answersKept_whenLive (keeps_exchangeStart c s)
  | downlinkEnd c b => exact answersKept_whenLive (keeps_downlinkEnd c b s)
  | answerStart c instant rise => exact answersKept_whenLive (keeps_answerStart c instant rise s)
  | windowExpiry c => exact answersKept_whenLive (keeps_windowExpiry c s)
  | uplinkEnd c average => exact answersKept_whenLive (keeps_uplinkEnd c average s)
  | probeEndLine reading => exact answersKept_whenLive (keeps_probeEndLine reading s)
  | probeEndPair reading => exact answersKept_whenLive (keeps_probeEndPair reading.val s)
  | serviceSelect => exact answersKept_whenLive (keeps_serviceSelect s)
  | serviceDeselect => exact answersKept_whenLive (keeps_serviceDeselect s)
  | serviceWordCompletion w => exact answersKept_whenLive (keeps_serviceWord w s)
  | energyAddressByte b => exact answersKept_whenLive (keeps_energyAddressed b s)
  | energyCommandByte b => exact answersKept_energyCommandByte b s
  | energyArgumentByte b => exact answersKept_energyArgumentByte b s
  | energyReadByte => exact answersKept_whenLive (keeps_energyReadByte s)
  | energyStopCondition => exact answersKept_whenLive (keeps_energyStop s)
  | unknownCommand p code => exact answersKept_unknownCommand p code s
  | status p => exact answersKept_status p s
  | nop p => exact answersKept_atPort (keeps_doNop p) s
  | seek p a => exact answersKept_atPort (keeps_doSeek p a) s
  | read p a => exact answersKept_atPort (keeps_doRead p a) s
  | take p => exact answersKept_atPort (keeps_doTake p) s
  | ack p a => exact answersKept_atPort (keeps_doAck p a) s
  | mask p a => exact answersKept_atPort (keeps_doMask p a) s
  | watermark p a => exact answersKept_atPort (keeps_doWatermark p a) s
  | vote p a => exact answersKept_atPort (keeps_doVote p a) s
  | resetPort p => exact answersKept_atPort (keeps_doResetPort p) s
  | post p a b => exact answersKept_atPort (keeps_doPost p a b) s
  | cancelEdits p => exact answersKept_atPort (keeps_doCancelEdits p) s
  | probe p a => exact answersKept_atPort (keeps_doProbe p a) s
  | wake p a => exact answersKept_atPort (keeps_doWake p a) s
  | retire p a => exact answersKept_atPort (keeps_doRetire p a) s
  | release p a => exact answersKept_atPort (keeps_doRelease p a) s
  | clearFault p a => exact answersKept_atPort (keeps_doClearFault p a) s
  | test p a => exact answersKept_atPort (keeps_doTest p a) s
  | abortTest p a => exact answersKept_atPort (keeps_doAbortTest p a) s
  | send p a => exact answersKept_atPort (keeps_doSend p a) s
  | setGrant p a => exact answersKept_atPort (keeps_doSetGrant p a) s
  | deposit p a => exact answersKept_atPort (keeps_doDeposit p a) s
  | drain p => exact answersKept_atPort (keeps_doDrain p) s

end Sys2Proof.Machine
end

/-! ## Admission: who is tested, in what order, and who enters the list (R27 to R34) -/

section
namespace Sys2Proof.Machine

theorem isPriority_iff (ch : Channel) : isPriority ch = true ↔
    ch.cfg.cls = .emergency ∨ ∃ r, ch.status = some r ∧ r.stale = false ∧ r.inUse = true := by
  unfold isPriority
  cases ch.status <;> simp

theorem powered_iff (l : Life) : powered l = true ↔ l = .waking ∨ l = .fed ∨ l = .resuming := by
  cases l <;> decide

theorem held_eq_false_iff (s : State) (c : Chan) : held s c = false ↔ ∀ p, s.probe = some p → p.partner ≠ some c := by
  unfold held
  cases s.probe <;> simp

theorem eligible_iff (s : State) (row : Row) (c : Chan) : eligible s row c = true ↔
    powered (chanAt s c).life = true ∧ held s c = false ∧
      ((chanAt s c).life = .waking → row.exchange = true ∧ 160 ≤ s.layout.len) := by
  simp only [eligible, Bool.and_eq_true, Bool.or_eq_true, Bool.not_eq_true', decide_eq_true_eq, and_assoc,
    imp_iff_not_or, ne_eq]
  rfl

theorem mem_sortedMembers (s : State) (row : Row) (c : Chan) :
    c ∈ sortedMembers s row ↔ c ∈ row.members ∧ eligible s row c = true := by
  unfold sortedMembers
  rw [(List.perm_insertionSort _ _).mem_iff, List.mem_filter]

theorem sortedMembers_nodup (s : State) {row : Row} (h : row.members.Nodup) : (sortedMembers s row).Nodup :=
  ((List.perm_insertionSort _ _).nodup_iff).2 (h.filter _)

theorem sortedMembers_length_le (s : State) (row : Row) : (sortedMembers s row).length ≤ row.members.length := by
  unfold sortedMembers
  rw [(List.perm_insertionSort _ _).length_eq]
  exact List.length_filter_le _ _

theorem sortedMembers_pairwise (s : State) (row : Row) :
    (sortedMembers s row).Pairwise fun c d => orderKey s c ≤ orderKey s d := by
  have htotal : Std.Total fun c d : Chan => orderKey s c ≤ orderKey s d := ⟨fun c d => Nat.le_total _ _⟩
  have htrans : IsTrans Chan fun c d => orderKey s c ≤ orderKey s d := ⟨fun _ _ _ => Nat.le_trans⟩
  exact List.pairwise_insertionSort _ _

/-- The rank of R32 is the difference to the rotor modulo 24. -/
theorem rankOf_eq {rotor : Nat} (_ : rotor < 24) (c : Chan) : (rankOf rotor c : Int) = ((c.val : Int) - (rotor : Int)) % 24 := by
  have := c.isLt
  unfold rankOf
  omega

theorem rankOf_lt (rotor : Nat) (c : Chan) : rankOf rotor c < 24 := Nat.mod_lt _ (by decide)

/-- The order of R32: by group first, by rank inside a group. -/
theorem orderKey_le_iff (s : State) (c d : Chan) : orderKey s c ≤ orderKey s d ↔
    groupOf (chanAt s c) < groupOf (chanAt s d) ∨
      groupOf (chanAt s c) = groupOf (chanAt s d) ∧ rankOf s.rotor c ≤ rankOf s.rotor d := by
  have hc := rankOf_lt s.rotor c
  have hd := rankOf_lt s.rotor d
  unfold orderKey
  omega

theorem groupOf_lt_iff (x y : Channel) : groupOf x < groupOf y ↔
    (isPriority x = true ∧ ¬ isPriority y = true) ∨
      (¬ isPriority x = true ∧ ¬ isPriority y = true ∧ x.cfg.cls ≠ .deferrable ∧ y.cfg.cls = .deferrable) := by
  unfold groupOf
  by_cases hx : isPriority x = true <;> by_cases hy : isPriority y = true <;>
    by_cases dx : x.cfg.cls = .deferrable <;> by_cases dy : y.cfg.cls = .deferrable <;> simp [hx, hy, dx, dy]

theorem groupOf_eq_iff (x y : Channel) : groupOf x = groupOf y ↔
    (isPriority x = true ↔ isPriority y = true) ∧
      (isPriority x = true ∨ (x.cfg.cls = .deferrable ↔ y.cfg.cls = .deferrable)) := by
  unfold groupOf
  by_cases hx : isPriority x = true <;> by_cases hy : isPriority y = true <;>
    by_cases dx : x.cfg.cls = .deferrable <;> by_cases dy : y.cfg.cls = .deferrable <;> simp [hx, hy, dx, dy]

theorem admission_of_live {s : State} {row : Row} (h1 : s.feedOn = true) (h2 : row.feed = true) :
    admission s row = budgetTest s row := by simp [admission, h1, h2]

theorem admission_of_null {s : State} {row : Row} (h : s.feedOn = false ∨ row.feed = false ∨ row.members = []) :
    admission s row = { committed := 0, entries := [], shed := [] } := by
  unfold admission
  split
  · rename_i hon
    have hm : row.members = [] := by simpa [Bool.and_eq_true .. ▸ hon] using h
    simp [budgetTest, sortedMembers, hm]
  · rfl

/-- Settles O17: the sort of the eligible members by group and rank. -/
theorem admissionOrder : Obligations.AdmissionOrder := by
  unfold Obligations.AdmissionOrder
  intro s row hrotor priority rank
  have hpriority : ∀ c, priority c ↔ isPriority (chanAt s c) = true := fun c => (isPriority_iff _).symm
  have hrank : ∀ c, rank c = (rankOf s.rotor c : Int) := fun c => (rankOf_eq hrotor c).symm
  refine ⟨fun h => ?_, admission_of_live, fun c => ?_, sortedMembers_nodup s, ?_⟩
  · rw [admission_of_null h]
    exact ⟨rfl, rfl⟩
  · rw [mem_sortedMembers, eligible_iff, powered_iff, held_eq_false_iff]
  · refine (sortedMembers_pairwise s row).imp fun {c d} hle => ?_
    rw [hpriority c, hpriority d, hrank, hrank, Nat.cast_le]
    rcases (orderKey_le_iff s c d).1 hle with hlt | ⟨heq, hle'⟩
    · rcases (groupOf_lt_iff _ _).1 hlt with h | h
      · exact .inl h
      · exact .inr (.inl h)
    · obtain ⟨hp, hd⟩ := (groupOf_eq_iff _ _).1 heq
      exact .inr (.inr ⟨hp, hd, hle'⟩)

/-! ### What the budget test keeps of the members -/

/-- The budget test takes a member into the list or sheds it. -/
theorem budgetStep_cases (s : State) (b : Budget) (c : Chan) :
    (∃ p, (budgetStep s b c).entries = b.entries ++ [{ chan := c, priority := p }] ∧ (budgetStep s b c).shed = b.shed) ∨
      (budgetStep s b c).entries = b.entries ∧ (budgetStep s b c).shed = b.shed ++ [c] := by
  unfold budgetStep
  simp only
  split
  · exact .inl ⟨true, rfl, rfl⟩
  · split
    · exact .inr ⟨rfl, rfl⟩
    · exact .inl ⟨false, rfl, rfl⟩

/-- The budget test lists and sheds members in the order it meets them, each once. -/
theorem budgetStep_foldl_sublist (s : State) (l : List Chan) (b : Budget) :
    ((l.foldl (budgetStep s) b).entries.map Entry.chan).Sublist (b.entries.map Entry.chan ++ l) ∧
      (l.foldl (budgetStep s) b).shed.Sublist (b.shed ++ l) := by
  induction l generalizing b with
  | nil => simp
  | cons c l ih =>
    obtain ⟨he, hs⟩ := ih (budgetStep s b c)
    have hskip : ∀ xs : List Chan, (xs ++ l).Sublist (xs ++ c :: l) := fun xs => (List.sublist_cons_self c l).append_left xs
    rcases budgetStep_cases s b c with ⟨p, hentries, hshed⟩ | ⟨hentries, hshed⟩ <;> rw [hentries] at he <;> rw [hshed] at hs
    · exact ⟨by simpa using he, hs.trans (hskip _)⟩
    · exact ⟨he.trans (hskip _), by simpa using hs⟩

theorem admission_sublist (s : State) (row : Row) :
    ((admission s row).entries.map Entry.chan).Sublist (sortedMembers s row) ∧
      (admission s row).shed.Sublist (sortedMembers s row) := by
  unfold admission
  split
  · exact budgetStep_foldl_sublist s _ _
  · exact ⟨List.nil_sublist _, List.nil_sublist _⟩

/-- The list a slot start makes of a row in range is in range (R21). -/
theorem admittedInRange_admission (s : State) {row : Row} (h : MembersInRange row.members) :
    AdmittedInRange (admission s row).entries := by
  have hsub := (admission_sublist s row).1
  refine ⟨?_, hsub.nodup (sortedMembers_nodup s h.2)⟩
  calc (admission s row).entries.length = ((admission s row).entries.map Entry.chan).length := (List.length_map _).symm
    _ ≤ (sortedMembers s row).length := hsub.length_le
    _ ≤ row.members.length := sortedMembers_length_le s row
    _ ≤ 4 := h.1

end Sys2Proof.Machine
end

/-! ## The sample event (R42 to R44, R70, R79, R80, R109) -/

section
namespace Sys2Proof.Machine

/-! ### The parts of a reading -/

/-- Inside the window of a switch-on still to complete, its peak takes the reading (R70). -/
theorem takePeak_eq (t i : Nat) (sw : FeedSwitch) : takePeak t i sw =
    { sw with switchOn := sw.switchOn.map fun o =>
        if o.completed = true ∨ o.completion < t then o else { o with peak := max o.peak i } } := by
  obtain ⟨state, code, so, count, trip, oc, load, last, sensed, closed⟩ := sw
  cases so with
  | none => rfl
  | some o =>
    by_cases hw : o.completed = true ∨ o.completion < t <;> simp [takePeak, hw]

/-- When a reading qualifies for the open-load count (R79). -/
theorem qualifies_iff (t : Nat) (ch : Channel) : qualifies t ch = true ↔
    (ch.life = .fed ∨ ch.life = .resuming) ∧ ch.sw.closedMs = true ∧
      (∃ o, ch.sw.switchOn = some o ∧ o.completion < t) ∧
      (∀ e, ch.exchange = some e → t ≤ e.start) ∧ ch.exchangeMs = false := by
  unfold qualifies
  cases ch.sw.switchOn <;> cases ch.exchange <;> simp [and_assoc]

/-- The meter and the inrush peak at a reading of the sample event (R44, R70). -/
def metered (t v i : Nat) (ch : Channel) : Channel := { ch with meter := addSample v i ch.meter, sw := takePeak t i ch.sw }

/-- Metering a reading changes nothing that the open-load count asks for. -/
theorem qualifies_metered (t v i : Nat) (ch : Channel) : qualifies t (metered t v i ch) = qualifies t ch := by
  have hs : (metered t v i ch).sw = _ := takePeak_eq t i ch.sw
  rw [Bool.eq_iff_iff, qualifies_iff, qualifies_iff, hs]
  have hwindow : (∃ o, (ch.sw.switchOn.map fun o =>
      if o.completed = true ∨ o.completion < t then o else { o with peak := max o.peak i }) = some o ∧ o.completion < t) ↔
      ∃ o, ch.sw.switchOn = some o ∧ o.completion < t := by
    cases ch.sw.switchOn with
    | none => simp
    | some o =>
      simp only [Option.map_some, Option.some.injEq, exists_eq_left']
      split <;> rfl
  simp only [hwindow]
  rfl

/-! ### The open-load count by the table of R79 -/

theorem countOpenLoad_of_uncounted {ch : Channel} (h : ch.life ≠ .fed ∧ ch.life ≠ .resuming) (t i : Nat) :
    countOpenLoad t i ch = ch := by simp [countOpenLoad, h]

theorem countOpenLoad_of_load {ch : Channel} (h : ch.life = .fed ∨ ch.life = .resuming) (t : Nat) {i : Nat} (hi : 5 ≤ i) :
    countOpenLoad t i ch = { ch with sw := { ch.sw with openLoad := 0 } } := by
  simp [countOpenLoad, h, lowReading, hi]

theorem countOpenLoad_of_low {ch : Channel} {t i : Nat} (hq : qualifies t ch = true) (hi : i < 5) :
    countOpenLoad t i ch = { ch with
      sw := { ch.sw with openLoad := ch.sw.openLoad + 1 }
      lostDue := ch.lostDue || decide (openLoadLimit ch.life ch.cfg.openLoadCode ≤ ch.sw.openLoad + 1) } := by
  have h := ((qualifies_iff t ch).1 hq).1
  simp [countOpenLoad, h, lowReading, Nat.not_le.2 hi, hq]

theorem countOpenLoad_of_unqualified {ch : Channel} {t i : Nat} (hq : qualifies t ch = false) (hi : i < 5) :
    countOpenLoad t i ch = ch := by
  simp [countOpenLoad, lowReading, Nat.not_le.2 hi, hq]

/-- The open-load count takes nothing but the count and a LOST that arises. -/
theorem countOpenLoad_frame (t i : Nat) (ch : Channel) : ∃ n due,
    countOpenLoad t i ch = { ch with sw := { ch.sw with openLoad := n }, lostDue := due } := by
  by_cases h : ch.life = .fed ∨ ch.life = .resuming
  · rcases Nat.lt_or_ge i 5 with hi | hi
    · cases hq : qualifies t ch
      · exact ⟨ch.sw.openLoad, ch.lostDue, countOpenLoad_of_unqualified hq hi⟩
      · exact ⟨_, _, countOpenLoad_of_low hq hi⟩
    · exact ⟨0, ch.lostDue, countOpenLoad_of_load h t hi⟩
  · exact ⟨ch.sw.openLoad, ch.lostDue, countOpenLoad_of_uncounted (not_or.1 h) t i⟩

/-! ### A channel after the sample event -/

/-- What the sample event does at every channel, sampling or not: the sensed current, the marks and the marks of the
millisecond. -/
def millisecondClosed (t : Nat) (r : Reading) (ch : Channel) : Channel :=
  { ch with
    sw := { ch.sw with sensed := r.current, closedMs := armed ch.sw }
    exchange := ch.exchange.map (receiveMark t r.average)
    exchangeMs := false }

theorem sampleChannel_of_idle {ch : Channel} (h : ch.meter.sampling = false) (t v : Nat) (r : Reading) :
    sampleChannel t v r ch = millisecondClosed t r ch := by
  simp [sampleChannel, h, millisecondClosed]

theorem sampleChannel_of_sampling {ch : Channel} (h : ch.meter.sampling = true) (t v : Nat) (r : Reading) :
    sampleChannel t v r ch =
      millisecondClosed t r (countOpenLoad t (min r.current 1023) (metered t v (min r.current 1023) ch)) := by
  simp only [sampleChannel, h, if_true]
  rfl

theorem armed_eq (sw : FeedSwitch) : armed sw = decide (sw.state = .ramping ∨ sw.state = .on) := by
  unfold armed
  rw [Bool.decide_or]

/-- The parts of a channel that a sample event may change. -/
theorem sampleChannel_frame (t v : Nat) (r : Reading) (ch : Channel) : ∃ m so n due, sampleChannel t v r ch =
    { ch with
      meter := m
      sw := { ch.sw with sensed := r.current, closedMs := decide (ch.sw.state = .ramping ∨ ch.sw.state = .on), switchOn := so,
                         openLoad := n }
      lostDue := due
      exchange := ch.exchange.map (receiveMark t r.average)
      exchangeMs := false } := by
  cases h : ch.meter.sampling
  · rw [sampleChannel_of_idle h, millisecondClosed, armed_eq]
    exact ⟨ch.meter, ch.sw.switchOn, ch.sw.openLoad, ch.lostDue, rfl⟩
  · rw [sampleChannel_of_sampling h]
    obtain ⟨n, due, hc⟩ := countOpenLoad_frame t (min r.current 1023) (metered t v (min r.current 1023) ch)
    rw [hc, millisecondClosed, armed_eq, metered, takePeak_eq]
    exact ⟨_, _, n, due, rfl⟩

theorem receiveMark_of_closed {t average a : Nat} {e : Exchange} (hp : e.phase = .uplink) (ha : e.answerStart = some a)
    (hlen : e.marks.length < 23) (ht : a + 2000 * (e.marks.length + 1) ≤ us t) :
    receiveMark t average e = { e with marks := e.marks ++ [decide (e.baseline + 10 ≤ average)] } := by
  have h : e.marks.length < marksBeforeLast ∧ a + markUs * (e.marks.length + 1) ≤ us t := ⟨hlen, ht⟩
  simp only [receiveMark, hp, ha, if_pos h]
  rfl

theorem receiveMark_of_open {t average : Nat} {e : Exchange}
    (h : ∀ a, e.phase = .uplink → e.answerStart = some a → 23 ≤ e.marks.length ∨ us t < a + 2000 * (e.marks.length + 1)) :
    receiveMark t average e = e := by
  unfold receiveMark
  split
  · rename_i a hp ha
    rw [if_neg]
    rintro ⟨hlen, ht⟩
    rcases h a hp ha with h23 | hlate
    · exact absurd hlen (Nat.not_lt.2 h23)
    · exact absurd ht (Nat.not_le.2 hlate)
  · rfl

/-! ### The step -/

theorem exec_sampleEvent {s : State} (hr : s.inReset = false) (h : sampleReady s = true) (bus : Nat)
    (readings : Vector Reading 24) : exec (.sampleEvent bus readings) s = .next (sampleEvent bus readings s) := by
  simp only [exec, execSampleEvent, whenLive, hr, h, if_true, Bool.false_eq_true, if_false]

theorem sampleEvent_eq (bus : Nat) (readings : Vector Reading 24) (s : State) : sampleEvent bus readings s =
    { s with busSample := min bus 6000, ms := s.ms + 1, slotTime := s.slotTime + 1,
             channels := (sampleEvent bus readings s).channels } := by
  simp only [sampleEvent, mapChans, busMax]

theorem chanAt_sampleEvent (bus : Nat) (readings : Vector Reading 24) (s : State) (c : Chan) :
    chanAt (sampleEvent bus readings s) c = sampleChannel (s.ms + 1) (min bus 6000) readings[c] (chanAt s c) := by
  have h : (sampleEvent bus readings s).channels =
      (mapChans (fun c ch => sampleChannel (s.ms + 1) (min bus 6000) readings[c] ch) s).channels := by
    simp only [sampleEvent, busMax]
  rw [chanAt_congr h, chanAt_mapChans]

/-- What a sampling channel's open-load count does, by the rows of R79. -/
theorem sampleChannel_openLoad {t v : Nat} {r : Reading} {x y : Channel} (hs : x.meter.sampling = true)
    (hy : y = sampleChannel t v r x) :
    (x.life ≠ .fed ∧ x.life ≠ .resuming → y.sw.openLoad = x.sw.openLoad ∧ y.lostDue = x.lostDue) ∧
    (x.life = .fed ∨ x.life = .resuming → 5 ≤ min r.current 1023 → y.sw.openLoad = 0 ∧ y.lostDue = x.lostDue) ∧
    (qualifies t x = true → min r.current 1023 < 5 → y.sw.openLoad = x.sw.openLoad + 1 ∧
      (y.lostDue = true ↔ x.lostDue = true ∨ openLoadLimit x.life x.cfg.openLoadCode ≤ x.sw.openLoad + 1)) ∧
    (x.life = .fed ∨ x.life = .resuming → min r.current 1023 < 5 → qualifies t x = false →
      y.sw.openLoad = x.sw.openLoad ∧ y.lostDue = x.lostDue) := by
  rw [sampleChannel_of_sampling hs] at hy
  have hcount : (metered t v (min r.current 1023) x).sw.openLoad = x.sw.openLoad := takePeak_openLoad _ _ _
  refine ⟨fun h => ?_, fun h hi => ?_, fun hq hi => ?_, fun _ hi hq => ?_⟩
  · rw [hy, countOpenLoad_of_uncounted (ch := metered t v _ x) h]
    exact ⟨hcount, rfl⟩
  · rw [hy, countOpenLoad_of_load (ch := metered t v _ x) h t hi]
    exact ⟨rfl, rfl⟩
  · rw [hy, countOpenLoad_of_low (qualifies_metered t v _ x ▸ hq) hi]
    simp only [millisecondClosed, hcount, Bool.or_eq_true, decide_eq_true_eq, true_and]
    rfl
  · rw [hy, countOpenLoad_of_unqualified (qualifies_metered t v _ x ▸ hq) hi]
    exact ⟨hcount, rfl⟩

/-- What a sampling channel's meter and inrush peak take (R44, R70). -/
theorem sampleChannel_metered {t v : Nat} {r : Reading} {x : Channel} (hs : x.meter.sampling = true) :
    (sampleChannel t v r x).meter = addSample v (min r.current 1023) x.meter ∧
    (sampleChannel t v r x).sw.switchOn = x.sw.switchOn.map fun o =>
      if o.completed = true ∨ o.completion < t then o else { o with peak := max o.peak (min r.current 1023) } := by
  rw [sampleChannel_of_sampling hs]
  obtain ⟨n, due, hc⟩ := countOpenLoad_frame t (min r.current 1023) (metered t v (min r.current 1023) x)
  rw [hc, metered, takePeak_eq]
  exact ⟨rfl, rfl⟩

/-- Settles O13: the sample event channel by channel. -/
theorem sampleEventReadsEveryChannel : Obligations.SampleEventReadsEveryChannel := by
  unfold Obligations.SampleEventReadsEveryChannel
  intro bus readings s hr hready
  refine ⟨_, exec_sampleEvent hr hready bus readings, sampleEvent_eq bus readings s, fun c => ?_⟩
  intro x y i qual limit
  have hy : y = sampleChannel (s.ms + 1) (min bus 6000) readings[c] x := chanAt_sampleEvent bus readings s c
  have hqual : qualifies (s.ms + 1) x = true ↔ qual := qualifies_iff _ _
  have hlimit : openLoadLimit x.life x.cfg.openLoadCode = limit := rfl
  obtain ⟨m, so, n, due, hframe⟩ := sampleChannel_frame (s.ms + 1) (min bus 6000) readings[c] x
  rw [← hy] at hframe
  have hex : y.exchange = x.exchange.map (receiveMark (s.ms + 1) readings[c].average) := by rw [hframe]
  refine ⟨by rw [hframe], by rw [hframe], ?_, ?_, ?_, ?_⟩
  · intro e a he hp ha hlen hclosed
    rw [hex, he, Option.map_some, receiveMark_of_closed hp ha hlen hclosed]
  · intro hopen
    rw [hex]
    cases he : x.exchange with
    | none => rfl
    | some e => rw [Option.map_some, receiveMark_of_open fun a hp ha => hopen e a he hp ha]
  · intro hidle
    rw [hy, sampleChannel_of_idle hidle]
    exact ⟨rfl, rfl, rfl, rfl⟩
  · intro hs
    obtain ⟨hother, hload, hlow, hunq⟩ := sampleChannel_openLoad hs hy
    obtain ⟨hmeter, hpeak⟩ := sampleChannel_metered (t := s.ms + 1) (v := min bus 6000) (r := readings[c]) hs
    rw [← hy] at hmeter hpeak
    refine ⟨hmeter, hpeak, hother, hload, fun h => hlow (hqual.2 h), fun h hi hn => hunq h hi ?_⟩
    exact Bool.eq_false_iff.2 fun h0 => hn (hqual.1 h0)

end Sys2Proof.Machine
end

/-! ## When the timebase's steps are due, and the slot end (R3 to R6, R45 to R47, R57, R58) -/

section
namespace Sys2Proof.Machine

/-! ### When steps are due -/

theorem sampleReady_iff (s : State) : sampleReady s = true ↔
    s.phase = .running ∧ s.slotTime < s.layout.len ∧ timely (us (s.ms + 1)) s = true := by
  simp [sampleReady, and_assoc]

theorem slotEndReady_iff (s : State) : slotEndReady s = true ↔
    s.phase = .running ∧ s.slotTime = s.layout.len ∧ ∀ c, (chanAt s c).lostDue = false := by
  simp [slotEndReady, and_assoc, allChans]

theorem slotStartReady_iff (s : State) : slotStartReady s = true ↔
    s.phase = .opened ∨ s.phase = .ended ∧ s.slotIndex + 1 ≠ s.layout.slots := by
  unfold slotStartReady
  cases s.phase <;> simp

theorem frameOpeningReady_iff (s : State) : frameOpeningReady s = true ↔ s.phase = .ended ∧ s.slotIndex + 1 = s.layout.slots := by
  simp [frameOpeningReady]

theorem whenLive_self (s : State) : whenLive s s = .next s := by simp [whenLive]

theorem exec_sampleEvent_of_not_ready {s : State} (h : sampleReady s = false) (bus : Nat) (readings : Vector Reading 24) :
    exec (.sampleEvent bus readings) s = .next s := by
  simp only [exec, execSampleEvent, h, Bool.false_eq_true, if_false, whenLive_self]

theorem exec_slotEnd_of_not_ready {s : State} (h : slotEndReady s = false) : exec .slotEnd s = .next s := by
  simp only [exec, execSlotEnd, h, Bool.false_eq_true, if_false, whenLive_self]

theorem exec_frameOpening_of_not_ready {s : State} (h : frameOpeningReady s = false) : exec .frameOpening s = .next s := by
  simp only [exec, execFrameOpening, h, Bool.false_eq_true, if_false, whenLive_self]

theorem exec_slotStart_of_not_ready {s : State} (h : slotStartReady s = false) : exec .slotStart s = .next s := by
  simp only [exec, execSlotStart, h, Bool.false_eq_true, if_false, whenLive_self]

theorem le_exchangeDeadline_iff (t : Nat) (e : Exchange) : t ≤ exchangeDeadline e ↔
    (e.phase = .downlink → t ≤ us (e.start + 32)) ∧ (e.phase = .window → t ≤ us (e.start + 52)) ∧
      (e.phase = .uplink → t ≤ e.answerStart.getD (us e.start) + 48000) := by
  unfold exchangeDeadline downlinkTime windowTime uplinkUs
  cases e.phase <;> simp

/-- The instants of `chanDeadlines` that a switch-on gives. -/
def switchDeadlines (x : Channel) : List Nat :=
  match x.sw.switchOn with
  | some o =>
    (if x.sw.state = .ramping then [us o.rampEnd] else []) ++ (if o.completed then [] else [us o.completion]) ++ [us (nextChop o)]
  | none => []

theorem chanDeadlines_eq (now : Nat) (x : Channel) : chanDeadlines now x =
    switchDeadlines x ++ (tripDeadline x).toList ++ (ocDeadline x).toList ++ (x.placement.map us).toList
      ++ (x.exchange.map exchangeDeadline).toList ++ (if x.lostDue then [us now] else []) := rfl

theorem le_switchDeadlines_iff (t : Nat) (x : Channel) : (∀ d ∈ switchDeadlines x, t ≤ d) ↔ ∀ o, x.sw.switchOn = some o →
    (x.sw.state = .ramping → t ≤ us o.rampEnd) ∧ (o.completed = false → t ≤ us o.completion) ∧
    t ≤ us (o.chopStart + o.chopLength) := by
  unfold switchDeadlines
  cases x.sw.switchOn with
  | none => simp
  | some o => by_cases hr : x.sw.state = .ramping <;> cases hc : o.completed <;> simp [hr, hc, nextChop]

/-- Everything a channel has to do by itself lies at `t` or later. -/
theorem le_chanDeadlines_iff (now t : Nat) (x : Channel) : (∀ d ∈ chanDeadlines now x, t ≤ d) ↔
    (∀ o, x.sw.switchOn = some o →
      (x.sw.state = .ramping → t ≤ us o.rampEnd) ∧ (o.completed = false → t ≤ us o.completion) ∧
      t ≤ us (o.chopStart + o.chopLength)) ∧
    (∀ since, x.sw.tripTimer = some since → t ≤ since + tripDeglitchUs x.cfg.tripDeglitch) ∧
    (∀ since, x.sw.ocTimer = some since → t ≤ since + ocDeglitchUs x.cfg.ocDeglitch) ∧
    (∀ start, x.placement = some start → t ≤ us start) ∧
    (∀ e, x.exchange = some e → t ≤ exchangeDeadline e) ∧
    (x.lostDue = true → t ≤ us now) := by
  have hlost : (∀ d ∈ (if x.lostDue then [us now] else []), t ≤ d) ↔ (x.lostDue = true → t ≤ us now) := by
    cases x.lostDue <;> simp
  simp only [chanDeadlines_eq, tripDeadline, ocDeadline, List.forall_mem_append, le_switchDeadlines_iff, hlost, and_assoc,
    Option.mem_toList, Option.map_eq_some_iff, forall_exists_index, and_imp, forall_apply_eq_imp_iff₂]

theorem overdueBefore_eq_false_iff (t : Nat) (s : State) : overdueBefore t s = false ↔
    (s.phase ≠ .running ∨ s.layout.len ≤ s.slotTime → t ≤ us s.ms) ∧ (∀ p, s.probe = some p → t ≤ us (p.stop + 1)) ∧
      ∀ c, ∀ d ∈ chanDeadlines s.ms (chanAt s c), t ≤ d := by
  have hboundary : (boundaryDue s && decide (us s.ms < t)) = false ↔
      (s.phase ≠ .running ∨ s.layout.len ≤ s.slotTime → t ≤ us s.ms) := by
    by_cases hb : s.phase ≠ .running ∨ s.layout.len ≤ s.slotTime <;> simp [boundaryDue, hb]
  have hchans : (allChans.any fun c => (chanDeadlines s.ms (chanAt s c)).any fun d => decide (d < t)) = false ↔
      ∀ c, ∀ d ∈ chanDeadlines s.ms (chanAt s c), t ≤ d := by
    simp [allChans]
  unfold overdueBefore
  rw [Bool.or_eq_false_iff, Bool.or_eq_false_iff, hboundary, hchans, and_assoc]
  refine and_congr_right fun _ => and_comm.trans (and_congr_left fun _ => ?_)
  cases s.probe <;> simp

/-- When a step of instant `t` in µs is timely, spelled out. -/
theorem timely_iff_spelled (t : Nat) (s : State) : timely t s = true ↔
    t ≤ us (s.ms + 1) ∧ (s.phase ≠ .running ∨ s.layout.len ≤ s.slotTime → t ≤ us s.ms) ∧
      (∀ p, s.probe = some p → t ≤ us (p.stop + 1)) ∧ ∀ c, ∀ d ∈ chanDeadlines s.ms (chanAt s c), t ≤ d := by
  rw [timely_iff, overdueBefore_eq_false_iff]

/-! ### Charging and closing an entry -/

/-- What a charge does to the account (R46); a record may join the energy queue. -/
theorem charge_account (c : Chan) (p : Bool) (e : Nat) (s : State) : ∃ en, charge c p e s = { s with
    grant := { s.grant with fr := s.grant.fr - chargeFrame s e }
    reserve := s.reserve - chargeReserve s p e
    tallies := { s.tallies with
      spent := tallyAdd s.tallies.spent (chargeFrame s e)
      drawn := tallyAdd s.tallies.drawn (chargeReserve s p e)
      overdraw := tallyAdd s.tallies.overdraw (chargeOverdraw s p e) }
    energy := en } := by
  unfold charge
  simp only
  split
  · exact ⟨_, rfl⟩
  · exact ⟨s.energy, rfl⟩

/-- The three parts of a charge are the charge, and each is taken from what is there. -/
theorem charge_parts (s : State) (p : Bool) (e : Nat) :
    chargeFrame s e ≤ s.grant.fr ∧ chargeReserve s p e ≤ s.reserve ∧
      chargeFrame s e + chargeReserve s p e + chargeOverdraw s p e = e := by
  unfold chargeOverdraw chargeReserve chargeFrame
  cases p
  · simp
  · simp only [if_true]
    omega

@[simp] theorem chanAt_charge (c : Chan) (p : Bool) (e : Nat) (s : State) (d : Chan) : chanAt (charge c p e s) d = chanAt s d := by
  obtain ⟨en, h⟩ := charge_account c p e s
  rw [h]
  rfl

theorem chanAt_closeEntry (s : State) (e : Entry) (c : Chan) :
    chanAt (closeEntry s e) c = if c = e.chan then closeChannel (chanAt s c) else chanAt s c := by
  unfold closeEntry
  by_cases h : c = e.chan
  · simp [h]
  · simp [h, chanAt_modChan_other h]

/-- What closing an entry writes: its channel, the account's tallies, remainder and reserve, and the energy port. -/
theorem closeEntry_account (s : State) (e : Entry) : ∃ cs en,
    closeEntry s e = { s with
      channels := cs
      energy := en
      grant := { s.grant with fr := s.grant.fr - chargeFrame s (chanAt s e.chan).meter.acc }
      reserve := s.reserve - chargeReserve s e.priority (chanAt s e.chan).meter.acc
      tallies := { s.tallies with
        spent := tallyAdd s.tallies.spent (chargeFrame s (chanAt s e.chan).meter.acc)
        drawn := tallyAdd s.tallies.drawn (chargeReserve s e.priority (chanAt s e.chan).meter.acc)
        overdraw := tallyAdd s.tallies.overdraw (chargeOverdraw s e.priority (chanAt s e.chan).meter.acc) } } := by
  obtain ⟨en, h⟩ := charge_account e.chan e.priority (chanAt s e.chan).meter.acc s
  unfold closeEntry modChan setChan
  rw [h]
  exact ⟨_, en, rfl⟩

/-! ### Closing the admitted list -/

/-- Closing a list of entries writes the channels, the energy port and the account's remainder, reserve and energy
tallies, and nothing else. -/
theorem closeEntries_frame (l : List Entry) (s : State) : ∃ cs en fr rp sp dr ov, l.foldl closeEntry s =
    { s with channels := cs, energy := en, grant := { s.grant with fr := fr }, reserve := rp,
             tallies := { s.tallies with spent := sp, drawn := dr, overdraw := ov } } := by
  induction l generalizing s with
  | nil => exact ⟨_, _, _, _, _, _, _, rfl⟩
  | cons e l ih =>
    obtain ⟨cs1, en1, h1⟩ := closeEntry_account s e
    obtain ⟨cs, en, fr, rp, sp, dr, ov, h⟩ := ih (closeEntry s e)
    refine ⟨cs, en, fr, rp, sp, dr, ov, ?_⟩
    rw [List.foldl_cons, h, h1]

theorem chanAt_closeEntries {l : List Entry} (hl : (l.map Entry.chan).Nodup) (s : State) (c : Chan) :
    chanAt (l.foldl closeEntry s) c = if c ∈ l.map Entry.chan then closeChannel (chanAt s c) else chanAt s c := by
  induction l generalizing s with
  | nil => simp
  | cons e l ih =>
    obtain ⟨he, hnodup⟩ := List.nodup_cons.1 hl
    rw [List.foldl_cons, ih hnodup, chanAt_closeEntry]
    by_cases h : c = e.chan
    · have hc : c ∉ l.map Entry.chan := h ▸ he
      rw [if_neg hc, if_pos h, if_pos (by simp [h])]
    · rw [if_neg h]
      simp only [List.map_cons, List.mem_cons, h, false_or]

theorem chanAt_closeEntries_of_not_mem {l : List Entry} {c : Chan} (h : c ∉ l.map Entry.chan) (s : State) :
    chanAt (l.foldl closeEntry s) c = chanAt s c := by
  induction l generalizing s with
  | nil => rfl
  | cons e l ih =>
    obtain ⟨hce, hcl⟩ := not_or.1 (List.mem_cons.not.1 h)
    rw [List.foldl_cons, ih hcl, chanAt_closeEntry, if_neg hce]

/-- The energies of a list of entries, as their channels hold them. -/
def slotEnergies (s : State) (l : List Entry) : Nat := (l.map fun e => (chanAt s e.chan).meter.acc).sum

theorem slotEnergies_closeEntry {e : Entry} {l : List Entry} (h : e.chan ∉ l.map Entry.chan) (s : State) :
    slotEnergies (closeEntry s e) l = slotEnergies s l := by
  unfold slotEnergies
  congr 1
  refine List.map_congr_left fun e' he' => ?_
  have hne : e'.chan ≠ e.chan := fun h0 => h (h0 ▸ List.mem_map_of_mem he')
  rw [chanAt_closeEntry, if_neg hne]

theorem tallyAdd_of_le {t n : Nat} (h : t + n ≤ 4294967295) : tallyAdd t n = t + n := Nat.min_eq_right h

/-- Where no tally saturates, what the tallies gain is what the remainder and the reserve lose, and in all the energies. -/
theorem closeEntries_sums {l : List Entry} (hl : (l.map Entry.chan).Nodup) (s : State)
    (h1 : s.tallies.spent + slotEnergies s l ≤ 4294967295) (h2 : s.tallies.drawn + slotEnergies s l ≤ 4294967295)
    (h3 : s.tallies.overdraw + slotEnergies s l ≤ 4294967295) :
    (l.foldl closeEntry s).tallies.spent + (l.foldl closeEntry s).grant.fr = s.tallies.spent + s.grant.fr ∧
    (l.foldl closeEntry s).tallies.drawn + (l.foldl closeEntry s).reserve = s.tallies.drawn + s.reserve ∧
    (l.foldl closeEntry s).tallies.spent + (l.foldl closeEntry s).tallies.drawn + (l.foldl closeEntry s).tallies.overdraw =
      s.tallies.spent + s.tallies.drawn + s.tallies.overdraw + slotEnergies s l := by
  induction l generalizing s with
  | nil => exact ⟨rfl, rfl, rfl⟩
  | cons e l ih =>
    obtain ⟨he, hnodup⟩ := List.nodup_cons.1 hl
    have hsum : slotEnergies s (e :: l) = (chanAt s e.chan).meter.acc + slotEnergies s l := by simp [slotEnergies]
    obtain ⟨hfr, hrp, hparts⟩ := charge_parts s e.priority (chanAt s e.chan).meter.acc
    have hrest := slotEnergies_closeEntry he s
    obtain ⟨cs, en, h⟩ := closeEntry_account s e
    have hfr' : (closeEntry s e).grant.fr = s.grant.fr - chargeFrame s (chanAt s e.chan).meter.acc := by rw [h]
    have hrp' : (closeEntry s e).reserve = s.reserve - chargeReserve s e.priority (chanAt s e.chan).meter.acc := by rw [h]
    have hspent : (closeEntry s e).tallies.spent = s.tallies.spent + chargeFrame s (chanAt s e.chan).meter.acc := by
      rw [h]
      exact tallyAdd_of_le (by omega)
    have hdrawn : (closeEntry s e).tallies.drawn =
        s.tallies.drawn + chargeReserve s e.priority (chanAt s e.chan).meter.acc := by
      rw [h]
      exact tallyAdd_of_le (by omega)
    have hover : (closeEntry s e).tallies.overdraw =
        s.tallies.overdraw + chargeOverdraw s e.priority (chanAt s e.chan).meter.acc := by
      rw [h]
      exact tallyAdd_of_le (by omega)
    obtain ⟨g1, g2, g3⟩ := ih hnodup (closeEntry s e) (by omega) (by omega) (by omega)
    rw [List.foldl_cons]
    exact ⟨by omega, by omega, by omega⟩

/-! ### The slot end -/

theorem exec_slotEnd {s : State} (hr : s.inReset = false) (h : slotEndReady s = true) : exec .slotEnd s = .next (slotEnd s) := by
  simp only [exec, execSlotEnd, whenLive, hr, h, if_true, Bool.false_eq_true, if_false]

theorem slotEnd_of_last {s : State} (h : s.slotIndex + 1 = s.layout.slots) : slotEnd s =
    { s.admitted.foldl closeEntry s with
      phase := .ended
      channels := (slotEnd s).channels
      tallies := .zero
      energy := enterRecord 16
        { frame := s.frame, slot := s.slotIndex, afterLoss := false, chan := none,
          body := .frameSummary s.grant.latched (s.admitted.foldl closeEntry s).tallies (s.admitted.foldl closeEntry s).reserve }
        (s.admitted.foldl closeEntry s).energy } := by
  obtain ⟨cs, en, fr, rp, sp, dr, ov, hu⟩ := closeEntries_frame s.admitted s
  simp only [slotEnd, hu, mapChans, h, if_true, summarise, report, modPort, queueCapacity]

theorem slotEnd_of_not_last {s : State} (h : s.slotIndex + 1 ≠ s.layout.slots) : slotEnd s =
    { s.admitted.foldl closeEntry s with phase := .ended, channels := (slotEnd s).channels } := by
  obtain ⟨cs, en, fr, rp, sp, dr, ov, hu⟩ := closeEntries_frame s.admitted s
  simp only [slotEnd, hu, mapChans, h, if_false]

theorem chanAt_slotEnd (s : State) (c : Chan) : chanAt (slotEnd s) c =
    { chanAt (s.admitted.foldl closeEntry s) c with
      meter := { (chanAt (s.admitted.foldl closeEntry s) c).meter with sampling := false } } := by
  have hch : (slotEnd s).channels = (mapChans (fun _ c => { c with meter := { c.meter with sampling := false } })
      (s.admitted.foldl closeEntry s)).channels := by
    simp only [slotEnd]
    split
    · simp only [summarise, report_channels]
    · rfl
  rw [chanAt_congr hch, chanAt_mapChans]

/-- Settles O14: by the list of what is due, and by induction on the admitted list. -/
theorem slotEndClosesTheSlot : Obligations.SlotEndClosesTheSlot := by
  unfold Obligations.SlotEndClosesTheSlot
  refine ⟨fun s => ?_, fun t s => ?_, fun e => ?_, fun v e => ?_, fun s hr hready => ?_⟩
  · refine ⟨sampleReady_iff s, slotEndReady_iff s, slotStartReady_iff s, fun _ _ h => exec_sampleEvent_of_not_ready h _ _,
      exec_slotEnd_of_not_ready, fun h => exec_frameOpening_of_not_ready ?_, exec_slotStart_of_not_ready⟩
    exact Bool.eq_false_iff.2 fun h0 => h ((frameOpeningReady_iff s).1 h0)
  · simp only [timely_iff_spelled, le_chanDeadlines_iff, le_exchangeDeadline_iff]
  · unfold exchangeDeadline
    cases e.phase <;> rfl
  · simp only [closeEntry, modChan, chanAt_charge]
    rfl
  · obtain ⟨cs, en, fr, rp, sp, dr, ov, hu⟩ := closeEntries_frame s.admitted s
    have hmem : ∀ c, isAdmitted s c = true ↔ c ∈ s.admitted.map Entry.chan := fun c => by simp [isAdmitted]
    refine ⟨slotEnd s, exec_slotEnd hr hready, chanAt_slotEnd s, slotEnd_of_not_last, slotEnd_of_last, by rw [hu], ?_, ?_⟩
    · intro c hc
      exact chanAt_closeEntries_of_not_mem (fun h0 => by simp [(hmem c).2 h0] at hc) s
    · intro hnodup
      refine ⟨fun c hc => ?_, closeEntries_sums hnodup s⟩
      rw [chanAt_closeEntries hnodup, if_pos ((hmem c).1 hc)]
      rfl

end Sys2Proof.Machine
end

/-! ## The frame opening (R6, R8, R50, R139, R140, R149, R176) -/

section
namespace Sys2Proof.Machine

/-! ### Edits -/

/-- Applying edits touches what one edit touches, and nothing else. -/
theorem applyEdit_foldl_frame (l : List Edit) (s : State) : ∃ ro la gl st df fl al cs sv en,
    l.foldl applyEdit s = { s with roster := ro, layout := la, globals := gl, holdStandard := st, holdDeferrable := df,
                                   floor := fl, alarmLevel := al, channels := cs, service := sv, energy := en } := by
  induction l generalizing s with
  | nil => exact ⟨_, _, _, _, _, _, _, _, _, _, rfl⟩
  | cons e l ih =>
    obtain ⟨_, _, _, _, _, _, _, _, _, _, h1⟩ := applyEdit_frame s e
    obtain ⟨ro, la, gl, st, df, fl, al, cs, sv, en, h⟩ := ih (applyEdit s e)
    refine ⟨ro, la, gl, st, df, fl, al, cs, sv, en, ?_⟩
    rw [List.foldl_cons, h, h1]

/-- The state the edits of a frame opening leave. -/
def editedFrame (s : State) : State := s.edits.foldl applyEdit (advanceFrame s)

theorem applyEdits_advanceFrame (s : State) : applyEdits (advanceFrame s) = { editedFrame s with edits := [] } := rfl

/-! ### The grant, by the table of R50 -/

theorem latchGrant_of_unlimited {s : State} (h : s.grant.unlimited = true) :
    latchGrant s = { s with grant := { s.grant with latched := s.grant.pending, fr := s.grant.pending * 1000 } } := by
  simp [latchGrant, h]

theorem latchGrant_of_life {s : State} (h : s.grant.unlimited = false) (hl : 0 < s.grant.life) :
    latchGrant s =
      { s with grant := { s.grant with latched := s.grant.pending, fr := s.grant.pending * 1000, life := s.grant.life - 1 } } := by
  simp [latchGrant, h, hl]

theorem latchGrant_of_reported {s : State} (h : s.grant.unlimited = false) (hl : s.grant.life = 0)
    (hr : s.grant.expiryReported = true) :
    latchGrant s = { s with grant := { s.grant with latched := 0, fr := 0, expiryReported := true } } := by
  simp [latchGrant, h, hl, hr]

theorem latchGrant_of_expiry {s : State} (h : s.grant.unlimited = false) (hl : s.grant.life = 0)
    (hr : s.grant.expiryReported = false) :
    latchGrant s =
      { s with
        grant := { s.grant with latched := 0, fr := 0, expiryReported := true }
        energy := enterRecord 16 { frame := s.frame, slot := s.slotIndex, afterLoss := false, chan := none,
                                   body := .grantExpired s.grant.pending } s.energy } := by
  simp [latchGrant, h, hl, hr, report, modPort, queueCapacity]

theorem latchGrant_edits (s : State) (es : List Edit) : latchGrant { s with edits := es } = { latchGrant s with edits := es } := by
  unfold latchGrant
  simp only
  split
  · rfl
  · split
    · rfl
    · split <;> rfl

/-- Where the grant does not expire in this opening, its latching enters no record. -/
theorem latchGrant_energy {s : State} (h : ¬ (s.grant.unlimited = false ∧ s.grant.life = 0 ∧ s.grant.expiryReported = false)) :
    (latchGrant s).energy = s.energy := by
  cases hu : s.grant.unlimited
  · rcases Nat.eq_zero_or_pos s.grant.life with hl | hl
    · cases hr : s.grant.expiryReported
      · exact absurd ⟨hu, hl, hr⟩ h
      · rw [latchGrant_of_reported hu hl hr]
    · rw [latchGrant_of_life hu hl]
  · rw [latchGrant_of_unlimited hu]

theorem latchGrant_grant_of_spent {s : State} (h : s.grant.unlimited = false) (hl : s.grant.life = 0) :
    (latchGrant s).grant = { s.grant with latched := 0, fr := 0, expiryReported := true } := by
  cases hr : s.grant.expiryReported
  · rw [latchGrant_of_expiry h hl hr]
  · rw [latchGrant_of_reported h hl hr]

/-! ### Tests -/

theorem countFrame_of_running {x : Channel} {k : TestContext} (ht : x.test = some k) (hp : k.phase = .running)
    (hr : 1 < k.remaining) : countFrame x = { x with test := some { k with remaining := k.remaining - 1 } } := by
  simp [countFrame, ht, hp, Nat.not_le.2 hr]

theorem countFrame_of_last {x : Channel} {k : TestContext} (ht : x.test = some k) (hp : k.phase = .running)
    (hr : k.remaining ≤ 1) : countFrame x =
      { x with life := .resuming, forecast := x.cfg.defaultForecast * 1000, seq := false, entered := true,
               sw := { x.sw with openLoad := 0 },
               test := some { k with phase := .resuming, remaining := 0, aborted := false } } := by
  have h0 : k.remaining - 1 = 0 := by omega
  simp [countFrame, ht, hp, hr, resumeChannel, h0]

theorem countFrame_of_not_running {x : Channel} (h : ∀ k, x.test = some k → k.phase ≠ .running) : countFrame x = x := by
  unfold countFrame
  split
  · rename_i k hk
    rw [if_neg (h k hk)]
  · rfl

/-! ### The step -/

theorem exec_frameOpening {s : State} (hr : s.inReset = false) (h : frameOpeningReady s = true) :
    exec .frameOpening s = .next (frameOpening s) := by
  simp only [exec, execFrameOpening, whenLive, hr, h, if_true, Bool.false_eq_true, if_false]

theorem frameOpening_grant (s : State) : (frameOpening s).grant = (latchGrant (editedFrame s)).grant := by
  simp only [frameOpening, applyEdits_advanceFrame, latchGrant_edits, mapChans, latchFrameCause]

theorem frameOpening_energy (s : State) :
    (frameOpening s).energy = { (latchGrant (editedFrame s)).energy with frameCause := true } := by
  simp only [frameOpening, applyEdits_advanceFrame, latchGrant_edits, mapChans, latchFrameCause]

/-- What a frame opening writes of the state its edits leave. -/
theorem frameOpening_frame (s : State) : frameOpening s =
    { editedFrame s with
      edits := []
      phase := .opened
      grant := (frameOpening s).grant
      channels := (frameOpening s).channels
      service := { (editedFrame s).service with frameCause := true }
      energy := (frameOpening s).energy } := by
  obtain ⟨g, en, h⟩ := latchGrant_frame (editedFrame s)
  simp only [frameOpening, applyEdits_advanceFrame, latchGrant_edits, h, mapChans, latchFrameCause]

theorem chanAt_frameOpening (s : State) (c : Chan) : chanAt (frameOpening s) c = countFrame (chanAt (editedFrame s) c) := by
  obtain ⟨g, en, h⟩ := latchGrant_frame (editedFrame s)
  have hch : (frameOpening s).channels = (mapChans (fun _ ch => countFrame ch) (editedFrame s)).channels := by
    simp only [frameOpening, applyEdits_advanceFrame, latchGrant_edits, h, mapChans, latchFrameCause]
  rw [chanAt_congr hch, chanAt_mapChans]

/-- Settles O15: the parts of a frame opening one after another. -/
theorem frameOpeningDoesItsParts : Obligations.FrameOpeningDoesItsParts := by
  unfold Obligations.FrameOpeningDoesItsParts
  intro s hr hphase hslot a expires
  have ha : editedFrame s = a := rfl
  obtain ⟨ro, la, gl, st, df, fl, al, cs, sv, en, hedited⟩ := applyEdit_foldl_frame s.edits (advanceFrame s)
  have hframe : a.frame = (s.frame + 1) % 65536 := congrArg State.frame hedited
  have hindex : a.slotIndex = 0 := congrArg State.slotIndex hedited
  have hgrant := frameOpening_grant s
  have henergy := frameOpening_energy s
  rw [ha] at hgrant henergy
  refine ⟨_, exec_frameOpening hr ((frameOpeningReady_iff s).2 ⟨hphase, hslot⟩), ?_, fun h => ?_, fun h hl => ?_,
    fun h hl => ?_, fun ⟨h, hl, hn⟩ => ?_, fun h => ?_, fun c => ?_⟩
  · exact frameOpening_frame s
  · rw [hgrant, latchGrant_of_unlimited h]
  · rw [hgrant, latchGrant_of_life h hl]
  · rw [hgrant, latchGrant_grant_of_spent h hl]
  · rw [henergy, latchGrant_of_expiry h hl hn, hframe, hindex]
  · rw [henergy, latchGrant_energy h]
  · intro x y
    have hy : y = countFrame x := chanAt_frameOpening s c
    rw [hy]
    exact ⟨fun k => countFrame_of_running, fun k => countFrame_of_last, countFrame_of_not_running⟩

end Sys2Proof.Machine
end

/-! ## The slot start (R5, R19, R20, R27, R34, R35, R67, R104) -/

section
namespace Sys2Proof.Machine

/-! ### The bus -/

/-- The bus stands below its floor (R35). -/
def busIsLow (s : State) : Bool := decide (s.floor ≠ 0 ∧ s.busSample < s.floor)

/-- The bus evaluation at a slot start: the state, its tally, and a record where the state changes (R35). -/
theorem evaluateBus_eq (s : State) : evaluateBus s =
    { s with
      busLow := busIsLow s
      energy :=
        if busIsLow s = s.busLow then s.energy
        else enterRecord 16 { frame := s.frame, slot := s.slotIndex, afterLoss := false, chan := none,
                              body := if busIsLow s then .busLow s.busSample s.floor else .busOk s.busSample s.floor } s.energy
      tallies := { s.tallies with busLow := min 4294967295 (s.tallies.busLow + if busIsLow s then 1 else 0) } } := by
  have hlow : (decide (s.floor ≠ 0) && decide (s.busSample < s.floor)) = busIsLow s := by simp [busIsLow]
  unfold evaluateBus
  simp only [hlow]
  cases busIsLow s <;> cases hb : s.busLow <;> simp [report, modPort, queueCapacity, tallyAdd, wordMax]

/-! ### Shed counts -/

/-- The channels after the shed counts of a slot start (R34). -/
theorem countShed_foldl_frame (l : List Chan) (s : State) : ∃ cs, l.foldl countShed s = { s with channels := cs } := by
  induction l generalizing s with
  | nil => exact ⟨_, rfl⟩
  | cons c l ih =>
    obtain ⟨cs, h⟩ := ih (countShed s c)
    exact ⟨cs, by rw [List.foldl_cons, h]; rfl⟩

theorem chanAt_countShed (s : State) (d c : Chan) : chanAt (countShed s d) c =
    if c = d then { chanAt s c with shed := min 65535 ((chanAt s c).shed + 1) } else chanAt s c := by
  unfold countShed
  by_cases h : c = d
  · subst h
    simp [shedMax]
  · simp [h, chanAt_modChan_other h]

theorem chanAt_countSheds {l : List Chan} (hl : l.Nodup) (s : State) (c : Chan) : chanAt (l.foldl countShed s) c =
    { chanAt s c with shed := if c ∈ l then min 65535 ((chanAt s c).shed + 1) else (chanAt s c).shed } := by
  induction l generalizing s with
  | nil => rfl
  | cons d l ih =>
    obtain ⟨hd, hnodup⟩ := List.nodup_cons.1 hl
    rw [List.foldl_cons, ih hnodup, chanAt_countShed]
    by_cases h : c = d
    · have hc : c ∉ l := h ▸ hd
      simp [h, hd]
    · simp [h]

/-- A slot start changes no more of a channel than its shed count before the switches act, and keeps that in range. -/
theorem chanAt_countSheds_range (l : List Chan) (s : State) (c : Chan) : ∃ n,
    chanAt (l.foldl countShed s) c = { chanAt s c with shed := n } ∧ ((chanAt s c).shed ≤ 65535 → n ≤ 65535) := by
  induction l generalizing s with
  | nil => exact ⟨_, rfl, id⟩
  | cons d l ih =>
    obtain ⟨n, h, hn⟩ := ih (countShed s d)
    rw [List.foldl_cons, h]
    rw [chanAt_countShed] at hn ⊢
    split at hn
    · rename_i hcd
      refine ⟨n, by rw [if_pos hcd], fun _ => hn (Nat.min_le_left _ _)⟩
    · rename_i hcd
      exact ⟨n, by rw [if_neg hcd], hn⟩

/-! ### The state after admission -/

/-- The state in which members are admitted: the slot runs, the bus has been compared. -/
def slotBase (s : State) : State := evaluateBus { s with slotTime := 0, phase := .running }

/-- What the slot start decides. -/
def slotBudget (s : State) : Budget := admission (slotBase s) (currentRow (slotBase s))

/-- The state after admission, before a look. -/
def slotAdmitted (s : State) : State :=
  mapChans (fun c ch => slotStartChannel s.globals s.ms s.layout.len ((slotBudget s).entries.any fun e => e.chan = c)
    (currentRow (slotBase s)).exchange ch) (applyAdmission (slotBudget s) (slotBase s))

theorem slotBase_eq (s : State) : ∃ low n en, slotBase s =
    { s with slotTime := 0, phase := .running, busLow := low, tallies := { s.tallies with busLow := n }, energy := en } :=
  evaluateBus_frame _

theorem applyAdmission_frame (b : Budget) (s : State) : ∃ cs, applyAdmission b s =
    { s with
      channels := cs
      admitted := b.entries
      tallies := { s.tallies with
        admitted := tallyAdd s.tallies.admitted b.entries.length, shed := tallyAdd s.tallies.shed b.shed.length } } := by
  obtain ⟨cs, h⟩ := countShed_foldl_frame b.shed s
  unfold applyAdmission
  rw [h]
  exact ⟨cs, rfl⟩

theorem chanAt_applyAdmission (b : Budget) (s : State) (c : Chan) :
    chanAt (applyAdmission b s) c = chanAt (b.shed.foldl countShed s) c := rfl

theorem slotAdmitted_frame (s : State) : slotAdmitted s =
    { slotBase s with
      channels := (slotAdmitted s).channels
      admitted := (slotBudget s).entries
      tallies := { (slotBase s).tallies with
        admitted := tallyAdd (slotBase s).tallies.admitted (slotBudget s).entries.length
        shed := tallyAdd (slotBase s).tallies.shed (slotBudget s).shed.length } } := by
  obtain ⟨cs, h⟩ := applyAdmission_frame (slotBudget s) (slotBase s)
  simp only [slotAdmitted, mapChans, h]

theorem beginSlot_eq (s : State) : beginSlot s = if s.waiting then look (slotAdmitted s) else slotAdmitted s := by
  obtain ⟨low, n, en, hb⟩ := slotBase_eq s
  obtain ⟨cs, h⟩ := applyAdmission_frame (slotBudget s) (slotBase s)
  have hslot : mapChans (fun c ch => slotStartChannel (applyAdmission (slotBudget s) (slotBase s)).globals
      (applyAdmission (slotBudget s) (slotBase s)).ms (applyAdmission (slotBudget s) (slotBase s)).layout.len
      (isAdmitted (applyAdmission (slotBudget s) (slotBase s)) c) (currentRow (slotBase s)).exchange ch)
      (applyAdmission (slotBudget s) (slotBase s)) = slotAdmitted s := by
    have hg : (applyAdmission (slotBudget s) (slotBase s)).globals = s.globals := by rw [h, hb]
    have hms : (applyAdmission (slotBudget s) (slotBase s)).ms = s.ms := by rw [h, hb]
    have hla : (applyAdmission (slotBudget s) (slotBase s)).layout = s.layout := by rw [h, hb]
    have had : (applyAdmission (slotBudget s) (slotBase s)).admitted = (slotBudget s).entries := by rw [h]
    simp only [slotAdmitted, isAdmitted, hg, hms, hla, had]
  have hw : (slotAdmitted s).waiting = s.waiting := by rw [slotAdmitted_frame, hb]
  unfold beginSlot
  simp only
  rw [show evaluateBus { s with slotTime := 0, phase := .running } = slotBase s from rfl,
    show admission (slotBase s) (currentRow (slotBase s)) = slotBudget s from rfl, hslot, hw]

theorem chanAt_slotAdmitted (s : State) (c : Chan) : chanAt (slotAdmitted s) c =
    slotStartChannel s.globals s.ms s.layout.len ((slotBudget s).entries.any fun e => e.chan = c)
      (currentRow (slotBase s)).exchange (chanAt ((slotBudget s).shed.foldl countShed (slotBase s)) c) := by
  rw [slotAdmitted, chanAt_mapChans, chanAt_applyAdmission]

theorem chanAt_slotBase (s : State) (c : Chan) : chanAt (slotBase s) c = chanAt s c := by
  obtain ⟨low, n, en, h⟩ := slotBase_eq s
  rw [h]
  rfl

/-! ### A channel at a slot start -/

theorem slotStartChannel_of_listed (g : Globals) (now len : Nat) (exchange : Bool) (ch : Channel) :
    slotStartChannel g now len true exchange ch =
      { ch with
        entered := false
        sw := if ch.sw.switchOn.isSome then ch.sw else closeSwitch g ch.cfg now ch.sw
        meter := { ch.meter with sampling := true }
        placement := if exchange then placementOf now len { ch with
            sw := if ch.sw.switchOn.isSome then ch.sw else closeSwitch g ch.cfg now ch.sw } else none } := by
  cases exchange <;> rfl

theorem slotStartChannel_of_unlisted (g : Globals) (now len : Nat) (exchange : Bool) (ch : Channel) :
    slotStartChannel g now len false exchange ch =
      { ch with
        entered := false
        placement := none
        sw := openSwitch g now ch.sw
        meter := { ch.meter with sampling := false } } := rfl

/-! ### The step -/

/-- The index of the slot that starts: one on after a slot end, 0 already after a frame opening (R5, R6). -/
def startedIndex (s : State) : Nat := if s.phase = .ended then s.slotIndex + 1 else s.slotIndex

theorem slotStart_eq {s : State} (h : slotStartReady s = true) :
    slotStart s = beginSlot { s with slotIndex := startedIndex s } := by
  unfold slotStart startedIndex
  rcases (slotStartReady_iff s).1 h with hp | ⟨hp, -⟩
  · rw [if_neg (by simp [hp])]
    change _ = beginSlot s
    simp only [hp]
  · rw [if_pos hp]
    congr 1
    simp only [hp]

theorem exec_slotStart {s : State} (hr : s.inReset = false) (h : slotStartReady s = true) :
    exec .slotStart s = .next (beginSlot { s with slotIndex := startedIndex s }) := by
  rw [← slotStart_eq h]
  simp only [exec, execSlotStart, whenLive, hr, h, if_true, Bool.false_eq_true, if_false]

/-- Settles O16: what the slot start decides, then channel by channel. -/
theorem slotStartActs : Obligations.SlotStartActs := by
  unfold Obligations.SlotStartActs
  refine ⟨rfl, rfl, fun s hr hready => ?_⟩
  intro low index record u row b hnodup
  have hu : u = slotBase { s with slotIndex := startedIndex s } := by
    unfold slotBase
    rw [evaluateBus_eq]
    change _ = { s with
      slotIndex := index, slotTime := 0, phase := .running, busLow := low
      energy := if low = s.busLow then s.energy else record (if low then .busLow s.busSample s.floor else .busOk s.busSample s.floor)
      tallies := { s.tallies with busLow := min 4294967295 (s.tallies.busLow + if low then 1 else 0) } }
    rw [apply_ite record]
  have hrow : row = currentRow (slotBase { s with slotIndex := startedIndex s }) := by rw [← hu]; rfl
  have hb : b = slotBudget { s with slotIndex := startedIndex s } := by
    unfold slotBudget
    rw [← hu]
    rfl
  have hshed : b.shed.Nodup := (admission_sublist u row).2.nodup (sortedMembers_nodup u hnodup)
  refine ⟨slotAdmitted { s with slotIndex := startedIndex s }, ?_, ?_, fun c => ?_⟩
  · rw [exec_slotStart hr hready, beginSlot_eq]
  · rw [slotAdmitted_frame, ← hu, ← hb]
    rfl
  · intro x y inList
    have hx : chanAt (slotBase { s with slotIndex := startedIndex s }) c = x := chanAt_slotBase _ c
    have hy : y = slotStartChannel s.globals s.ms s.layout.len (b.entries.any fun e => e.chan = c) row.exchange
        { x with shed := if c ∈ b.shed then min 65535 (x.shed + 1) else x.shed } := by
      rw [← hx, ← chanAt_countSheds hshed, hb, hrow]
      exact chanAt_slotAdmitted _ c
    by_cases hin : inList
    · have hany : (b.entries.any fun e => e.chan = c) = true := by simpa using hin
      rw [hany, slotStartChannel_of_listed] at hy
      refine ⟨by rw [hy], by rw [hy], fun _ => by rw [hy], fun h => absurd hin h, fun _ hon => ?_, fun _ hoff => ?_,
        fun h => absurd hin h, fun h => ?_, fun _ hex => ?_⟩
      · rw [hy]
        simp [Option.isSome_iff_ne_none.2 hon]
      · rw [hy]
        simp only [hoff, Option.isSome_none, Bool.false_eq_true, if_false]
        rfl
      · rcases h with h | h
        · exact absurd hin h
        · simp [hy, h]
      · rw [hy, hex]
        rfl
    · have hany : (b.entries.any fun e => e.chan = c) = false :=
        Bool.eq_false_iff.2 fun h0 => hin (by simpa using h0)
      rw [hany, slotStartChannel_of_unlisted] at hy
      refine ⟨by rw [hy], by rw [hy], fun h => absurd h hin, fun _ => by rw [hy], fun h => absurd h hin, fun h => absurd h hin,
        fun _ => ?_, fun _ => by rw [hy], fun h => absurd h hin⟩
      rw [hy]
      exact openSwitch_openedFrom _ _ _

end Sys2Proof.Machine
end

/-! ## Reset: its values, its release, what it holds back, and the invariants it meets -/

section
namespace Sys2Proof.Machine

/-- The block after device reset, with any commands waiting and any free values drawn. -/
def resetWith (q : List Instr) (n : Nat) : State := { State.reset with pending := q, freeCount := n }

@[simp] theorem chanAt_resetWith (q : List Instr) (n : Nat) (c : Chan) : chanAt (resetWith q n) c = .reset :=
  Vector.getElem_replicate _

@[simp] theorem rowAt_resetWith (q : List Instr) (n : Nat) (r : RowIndex) :
    rowAt (resetWith q n) r = { feed := false, exchange := false, members := [] } := Vector.getElem_replicate _

@[simp] theorem portOf_resetWith (q : List Instr) (n : Nat) (p : Port) : portOf (resetWith q n) p = .reset := by cases p <;> rfl

/-- Settles O2: each register by evaluation, the rows, channels and ports each as one. -/
theorem resetLeavesStatedValues : Obligations.ResetLeavesStatedValues := by
  unfold Obligations.ResetLeavesStatedValues
  have hrow := rowAt_resetWith [] 0
  have hchan : ∀ c : Chan, chanAt State.reset c = .reset := chanAt_resetWith [] 0
  have hport : ∀ p : Port, portOf State.reset p = .reset := portOf_resetWith [] 0
  refine ⟨rfl, rfl, rfl, rfl, rfl, hrow, rfl, rfl, rfl, rfl, rfl, rfl, rfl, rfl, rfl, rfl, rfl, rfl, rfl, fun c => ?_,
    rfl, rfl, rfl, rfl, rfl, fun p => ?_, rfl, rfl, rfl, rfl, rfl, rfl⟩
  · rw [hchan]
    simp [Channel.reset, ChanConfig.default, FeedSwitch.reset, Meter.reset]
  · rw [hport]
    exact ⟨rfl, rfl, rfl, rfl, rfl, rfl, rfl, rfl, rfl⟩

/-! ### The release -/

theorem channels_eq_of_chanAt {s t : State} (h : ∀ c, chanAt s c = chanAt t c) : s.channels = t.channels :=
  Vector.ext fun i hi => h ⟨i, hi⟩

/-- The block just released, before its first slot start. -/
def released (q : List Instr) (n : Nat) (adr1 adr0 : Bool) : State :=
  { resetWith q n with inReset := false, strap1 := adr1, strap0 := adr0 }

theorem slotBase_released (q : List Instr) (n : Nat) (adr1 adr0 : Bool) :
    slotBase (released q n adr1 adr0) = released q n adr1 adr0 := by
  unfold slotBase
  rw [evaluateBus_eq]
  rfl

theorem slotBudget_released (q : List Instr) (n : Nat) (adr1 adr0 : Bool) :
    slotBudget (released q n adr1 adr0) = { committed := 0, entries := [], shed := [] } := by
  unfold slotBudget
  rw [slotBase_released]
  exact admission_of_null (.inl rfl)

theorem chanAt_slotAdmitted_released (q : List Instr) (n : Nat) (adr1 adr0 : Bool) (c : Chan) :
    chanAt (slotAdmitted (released q n adr1 adr0)) c = chanAt (released q n adr1 adr0) c := by
  have h : chanAt (released q n adr1 adr0) c = .reset := chanAt_resetWith q n c
  rw [chanAt_slotAdmitted, slotBudget_released, slotBase_released]
  simp only [List.any_nil, List.foldl_nil, h]
  rfl

/-- The slot start of the release admits nobody and leaves every channel as reset left it. -/
theorem slotAdmitted_released (q : List Instr) (n : Nat) (adr1 adr0 : Bool) :
    slotAdmitted (released q n adr1 adr0) = released q n adr1 adr0 := by
  have hch := channels_eq_of_chanAt (chanAt_slotAdmitted_released q n adr1 adr0)
  rw [slotAdmitted_frame, slotBase_released, slotBudget_released, hch]
  rfl

/-- Settles O3: the release evaluates one slot start on an empty block. -/
theorem resetThenRelease : Obligations.ResetThenRelease := by
  unfold Obligations.ResetThenRelease
  refine ⟨fun _ => rfl, fun adr1 adr0 q n => ?_⟩
  change Host.Outcome.next (beginSlot (released q n adr1 adr0)) = .next (released q n adr1 adr0)
  rw [beginSlot_eq, slotAdmitted_released]
  rfl

/-! ### While device reset holds -/

theorem whenLive_of_inReset {s : State} (h : s.inReset = true) (t : State) : whenLive s t = .next s := by simp [whenLive, h]

theorem atPort_of_inReset {s : State} (h : s.inReset = true) (p : Port) (cmd : Cmd) (args : List Word) (act : State → State) :
    Host.Outcome.next (φ := Fault) (ρ := Refusal) (atPort p cmd args act s) = .next s := by
  rw [atPort_of_not_due]
  simp [commandDue, h]

theorem exec_of_inReset {i : Instr} {s : State} (h : s.inReset = true) (hi : i ≠ .deviceReset)
    (hi' : ∀ a b, i ≠ .resetRelease a b) : exec i s = .next s := by
  cases i with
  | deviceReset => exact absurd rfl hi
  | resetRelease a b => exact absurd rfl (hi' a b)
  | unknownCommand p code => simp [exec, execUnknownCommand, unknownDue, h]
  | status p => simpa [exec, execStatus, h] using atPort_of_inReset h p .status [] (doStatus p)
  | nop | seek | read | take | ack | mask | watermark | vote | resetPort | post | cancelEdits | probe | wake | retire
  | release | clearFault | test | abortTest | send | setGrant | deposit | drain => exact atPort_of_inReset h _ _ _ _
  | sampleEvent | openLoadLost | switchOnComplete | slotEnd | frameOpening | slotStart | rampEnd | chopPeriodStart
  | tripAssert | overcurrentAssert | exchangeStart | downlinkEnd | answerStart | windowExpiry | uplinkEnd | probeEndLine
  | probeEndPair | serviceSelect | serviceDeselect | energyAddressByte | energyArgumentByte | energyReadByte
  | detectorLevelCrossing | energyCommandByte | energyStopCondition | serviceWordCompletion => exact whenLive_of_inReset h _

/-- Settles O4: every step but the two of reset asks whether the block runs. -/
theorem deviceResetHolds : Obligations.DeviceResetHolds := by
  unfold Obligations.DeviceResetHolds
  refine ⟨fun i s h hi hi' => exec_of_inReset h hi hi', fun a b s h => ?_⟩
  simp [exec, execResetRelease, h]

/-! ### Records -/

theorem enterRecord_of_room {cap : Nat} {ps : PortState} (h : ps.queue.length < cap) (r : Report) : enterRecord cap r ps =
    { ps with queue := ps.queue ++ [{ r with afterLoss := ps.lossMark }], lossMark := false } := by simp [enterRecord, h]

theorem enterRecord_of_full {cap : Nat} {ps : PortState} (h : cap ≤ ps.queue.length) (r : Report) : enterRecord cap r ps =
    { ps with lossMark := true, lossCause := true } := by simp [enterRecord, Nat.not_lt.2 h]

/-- Settles O5: the two rows of R173 at either port's capacity. -/
theorem recordEntryFollowsTable : Obligations.RecordEntryFollowsTable := by
  unfold Obligations.RecordEntryFollowsTable
  refine ⟨fun _ _ _ _ => rfl, fun _ _ _ => rfl, fun p r ps => ?_⟩
  cases p
  · exact ⟨fun h => enterRecord_of_room h r, fun h => enterRecord_of_full h r⟩
  · exact ⟨fun h => enterRecord_of_room h r, fun h => enterRecord_of_full h r⟩

/-! ### The invariants at reset -/

theorem channelInRange_reset : ChannelInRange .reset := by
  refine (channelInRange_iff _).2 ⟨?_, .of_idle (by decide) (by decide) (by decide) rfl⟩
  exact {
    strikes := Nat.zero_le _
    shed := Nat.zero_le _
    attempts := Nat.zero_le _
    misses := Nat.zero_le _
    openLoad := Nat.zero_le _
    sw := ⟨by decide, Nat.zero_le _, Nat.zero_le _, fun _ h => nomatch h⟩
    residue := by decide
    sub := by decide
    total := Nat.zero_le _
    cfg := ⟨by decide, by decide, by decide, by decide⟩
    status := fun _ h => nomatch h
    mailbox := fun _ h => nomatch h
    test := fun _ h => nomatch h
    exchange := fun _ h => nomatch h }

theorem editsInRange_reset (q : List Instr) (n : Nat) : EditsInRange (resetWith q n) := fun _ h => nomatch h

theorem frameInRange_reset (q : List Instr) (n : Nat) : FrameInRange (resetWith q n) := by
  have hlayout : LayoutInRange State.reset.layout := by unfold LayoutInRange; decide
  have hglobals : GlobalsInRange State.reset.globals := by unfold GlobalsInRange; decide
  obtain ⟨hframe, hslot, hrotor⟩ : State.reset.frame < 65536 ∧ State.reset.slotIndex < State.reset.layout.slots ∧
      State.reset.rotor < 24 := by decide
  have hrows : ∀ r : RowIndex, MembersInRange (rowAt (resetWith q n) r).members := fun r => by
    rw [rowAt_resetWith]
    exact ⟨Nat.zero_le _, List.nodup_nil⟩
  exact ⟨hlayout, hframe, hslot, hrotor, Nat.zero_le _, hrows, ⟨Nat.zero_le _, List.nodup_nil⟩, hglobals,
    editsInRange_reset q n⟩

theorem talliesInRange_zero : TalliesInRange .zero :=
  ⟨Nat.zero_le _, Nat.zero_le _, Nat.zero_le _, Nat.zero_le _, Nat.zero_le _, Nat.zero_le _⟩

theorem accountInRange_reset (q : List Instr) (n : Nat) : AccountInRange (resetWith q n) :=
  ⟨Nat.zero_le _, Nat.zero_le _, Nat.zero_le _, Nat.zero_le _, Nat.zero_le _, Nat.zero_le _, Nat.zero_le _, Nat.zero_le _,
    talliesInRange_zero, editsInRange_reset q n⟩

theorem channelsInRange_reset (q : List Instr) (n : Nat) : ChannelsInRange (resetWith q n) := by
  refine ⟨fun c => ?_, (by decide : State.reset.frame < 65536), editsInRange_reset q n⟩
  rw [chanAt_resetWith]
  exact channelInRange_reset

theorem energiesInRange_reset (q : List Instr) (n : Nat) : EnergiesInRange (resetWith q n) := by
  refine ⟨frameInRange_reset q n, fun c => ?_⟩
  unfold EnergyInRange
  rw [chanAt_resetWith]
  exact ⟨by decide, by decide, by decide, Nat.zero_le _, fun _ => ⟨rfl, rfl⟩, fun _ => ⟨rfl, rfl⟩⟩

theorem queuesBounded_reset (q : List Instr) (n : Nat) : QueuesBounded (resetWith q n) :=
  ⟨portInRange_reset (by decide), portInRange_reset (by decide), Nat.zero_le _, (fun _ h => nomatch h), assemblyInRange_reset,
    (fun _ => rfl), fun _ h => nomatch h⟩

theorem switchesSound_reset (q : List Instr) (n : Nat) : SwitchesSound (resetWith q n) := fun c => by
  rw [chanAt_resetWith]
  exact ⟨⟨fun _ => rfl, fun _ => rfl⟩, fun h => absurd rfl h⟩

theorem testsMatch_reset (q : List Instr) (n : Nat) : TestsMatch (resetWith q n) := fun c => by
  rw [chanAt_resetWith]
  exact ⟨⟨by decide, by decide, by decide⟩, fun h => absurd rfl h, trivial⟩

theorem exchangesFit_reset (q : List Instr) (n : Nat) : ExchangesFit (resetWith q n) := by
  refine ⟨Nat.zero_le _, fun _ c => ?_, fun h => absurd rfl h⟩
  rw [chanAt_resetWith]
  exact ⟨trivial, trivial⟩

theorem probesSound_reset (q : List Instr) (n : Nat) : ProbesSound (resetWith q n) :=
  ⟨Nat.zero_le _, List.nodup_nil, trivial⟩

/-- Settles O55: each invariant at the state after device reset. -/
theorem invariantsHoldAtReset : Obligations.InvariantsHoldAtReset := by
  unfold Obligations.InvariantsHoldAtReset
  intro q
  exact ⟨rfl, switchesSound_reset q 0, testsMatch_reset q 0, exchangesFit_reset q 0, probesSound_reset q 0,
    frameInRange_reset q 0, accountInRange_reset q 0, channelsInRange_reset q 0, energiesInRange_reset q 0,
    queuesBounded_reset q 0⟩

end Sys2Proof.Machine
end

/-! ## What a frame holds fixed, and the ranges every step keeps

Each of the five invariants is kept by the steps of reset and of the timebase one by one, and by every other step through
`exec_keeps`; `StepKeeps` packages that case split once. -/

section
namespace Sys2Proof.Machine

/-! ### The case split over a step -/

/-- What to show for a step to keep an invariant: the queue of commands does not matter, the steps that keep the frame keep
it, and so does each step of reset and of the timebase where it acts. -/
structure StepKeeps (I : State → Prop) : Prop where
  queue : ∀ {s} (q : List Instr), I s → I { s with pending := q }
  kept : ∀ {s t}, Keeps s t → I s → I t
  reset : ∀ q n, I (resetWith q n)
  release : ∀ {s} (adr1 adr0 : Bool), s.inReset = true → I s →
    I (slotAdmitted { s with inReset := false, strap1 := adr1, strap0 := adr0 })
  sample : ∀ {s} (bus : Nat) (readings : Vector Reading 24), s.inReset = false → sampleReady s = true → I s →
    I (sampleEvent bus readings s)
  ended : ∀ {s}, s.inReset = false → slotEndReady s = true → I s → I (slotEnd s)
  opening : ∀ {s}, s.inReset = false → frameOpeningReady s = true → I s → I (frameOpening s)
  start : ∀ {s}, s.inReset = false → slotStartReady s = true → I s → I (slotAdmitted { s with slotIndex := startedIndex s })

theorem keeps_beginSlot (s : State) : Keeps (slotAdmitted s) (beginSlot s) := by
  rw [beginSlot_eq]
  exact .ite (keeps_look _) (.refl _)

/-- A step of the timebase acts in the running block where it is due, and else leaves the state. -/
theorem of_whenLive_ready {I : State → Prop} {s t u : State} {ready : Bool} (hs : I s)
    (ht : s.inReset = false → ready = true → I t) (h : whenLive s (if ready then t else s) = .next u) : I u := by
  cases h
  cases hr : s.inReset
  · cases hready : ready
    · exact hs
    · exact ht hr hready
  · exact hs

theorem StepKeeps.exec {I : State → Prop} (k : StepKeeps I) {i : Instr} {s t : State} (hs : I s) (h : exec i s = .next t) :
    I t := by
  cases hi : timebaseStep i with
  | false =>
    obtain ⟨t', ht', hkeeps⟩ := exec_keeps hi s
    rw [h] at ht'
    cases ht'
    exact k.kept hkeeps hs
  | true =>
    cases i with
    | deviceReset =>
      cases h
      exact k.reset s.pending s.freeCount
    | resetRelease adr1 adr0 =>
      cases h
      cases hr : s.inReset
      · exact hs
      · exact k.kept (keeps_beginSlot _) (k.release adr1 adr0 hr hs)
    | sampleEvent bus readings => exact of_whenLive_ready hs (fun hr hd => k.sample bus readings hr hd hs) h
    | slotEnd => exact of_whenLive_ready hs (fun hr hd => k.ended hr hd hs) h
    | frameOpening => exact of_whenLive_ready hs (fun hr hd => k.opening hr hd hs) h
    | slotStart =>
      refine of_whenLive_ready hs (fun hr hd => ?_) h
      rw [slotStart_eq hd]
      exact k.kept (keeps_beginSlot _) (k.start hr hd hs)
    | _ => cases hi

theorem StepKeeps.step {I : State → Prop} (k : StepKeeps I) {s t : State} (hs : I s) (h : step s = .next t) : I t := by
  unfold Machine.step at h
  split at h
  · cases h
    exact hs
  · exact k.exec (k.queue _ hs) h

/-! ### What the steps of the timebase leave -/

theorem closeEntry_cfg (s : State) (e : Entry) (c : Chan) : (chanAt (closeEntry s e) c).cfg = (chanAt s c).cfg := by
  rw [chanAt_closeEntry]
  split <;> rfl

/-- Closing entries takes from the frame remainder and leaves every configuration. -/
theorem closeEntries_policy (l : List Entry) (s : State) :
    (l.foldl closeEntry s).grant.fr ≤ s.grant.fr ∧ ∀ c, (chanAt (l.foldl closeEntry s) c).cfg = (chanAt s c).cfg := by
  refine List.foldlRecOn l closeEntry (motive := fun u => u.grant.fr ≤ s.grant.fr ∧ ∀ c, (chanAt u c).cfg = (chanAt s c).cfg)
    ⟨Nat.le_refl _, fun _ => rfl⟩ fun u hu e _ => ?_
  obtain ⟨cs, en, h⟩ := closeEntry_account u e
  refine ⟨?_, fun c => (closeEntry_cfg u e c).trans (hu.2 c)⟩
  rw [h]
  exact Nat.le_trans (Nat.sub_le _ _) hu.1

/-- The registers a slot end writes. -/
theorem slotEnd_frame (s : State) : ∃ cs en fr rp ta, slotEnd s =
    { s with phase := .ended, channels := cs, energy := en, grant := { s.grant with fr := fr }, reserve := rp, tallies := ta } ∧
      fr ≤ s.grant.fr := by
  obtain ⟨cs, en, fr, rp, sp, dr, ov, hu⟩ := closeEntries_frame s.admitted s
  have hfr := (closeEntries_policy s.admitted s).1
  rw [hu] at hfr
  by_cases h : s.slotIndex + 1 = s.layout.slots
  · have hlast := slotEnd_of_last h
    rw [hu] at hlast
    exact ⟨_, _, _, _, _, hlast, hfr⟩
  · have hnext := slotEnd_of_not_last h
    rw [hu] at hnext
    exact ⟨_, _, _, _, _, hnext, hfr⟩

theorem slotAdmitted_policy (s : State) : ∃ low en ta, slotAdmitted s =
    { s with slotTime := 0, phase := .running, busLow := low, energy := en, tallies := ta,
             channels := (slotAdmitted s).channels, admitted := (slotBudget s).entries } := by
  obtain ⟨low, n, en, h⟩ := slotBase_eq s
  have hframe := slotAdmitted_frame s
  rw [h] at hframe
  exact ⟨_, _, _, hframe⟩

/-! ### What a frame holds fixed -/

/-- The policy of a frame stays, and its remainder does not increase. -/
structure PolicyKept (s t : State) : Prop where
  roster : t.roster = s.roster
  layout : t.layout = s.layout
  globals : t.globals = s.globals
  cfg : ∀ c, (chanAt t c).cfg = (chanAt s c).cfg
  holdStandard : t.holdStandard = s.holdStandard
  holdDeferrable : t.holdDeferrable = s.holdDeferrable
  floor : t.floor = s.floor
  alarmLevel : t.alarmLevel = s.alarmLevel
  frame : t.frame = s.frame
  rotor : t.rotor = s.rotor
  latched : t.grant.latched = s.grant.latched
  fr : t.grant.fr ≤ s.grant.fr

theorem PolicyKept.refl (s : State) : PolicyKept s s :=
  ⟨rfl, rfl, rfl, fun _ => rfl, rfl, rfl, rfl, rfl, rfl, rfl, rfl, Nat.le_refl _⟩

/-- The release and the slot index are no part of the policy. -/
theorem policyKept_write (s : State) (r : Bool) (index : Nat) (adr1 adr0 : Bool) :
    PolicyKept s { s with inReset := r, slotIndex := index, strap1 := adr1, strap0 := adr0 } :=
  ⟨rfl, rfl, rfl, fun _ => rfl, rfl, rfl, rfl, rfl, rfl, rfl, rfl, Nat.le_refl _⟩

theorem PolicyKept.trans {s t u : State} (h : PolicyKept s t) (k : PolicyKept t u) : PolicyKept s u :=
  ⟨k.roster.trans h.roster, k.layout.trans h.layout, k.globals.trans h.globals, fun c => (k.cfg c).trans (h.cfg c),
    k.holdStandard.trans h.holdStandard, k.holdDeferrable.trans h.holdDeferrable, k.floor.trans h.floor,
    k.alarmLevel.trans h.alarmLevel, k.frame.trans h.frame, k.rotor.trans h.rotor, k.latched.trans h.latched,
    Nat.le_trans k.fr h.fr⟩

theorem Quiet.policy {s t : State} (h : Quiet s t) : PolicyKept s t where
  roster := congrArg Held.roster h.held
  layout := congrArg Held.layout h.held
  globals := congrArg Held.globals h.held
  cfg := fun c => (h.measure c).cfg
  holdStandard := congrArg Held.holdStandard h.held
  holdDeferrable := congrArg Held.holdDeferrable h.held
  floor := congrArg Held.floor h.held
  alarmLevel := congrArg Held.alarmLevel h.held
  frame := congrArg Held.frame h.held
  rotor := congrArg Held.rotor h.held
  latched := congrArg Held.latched h.held
  fr := Nat.le_of_eq (congrArg Held.fr h.held)

theorem policyKept_sampleEvent (bus : Nat) (readings : Vector Reading 24) (s : State) :
    PolicyKept s (sampleEvent bus readings s) := by
  have hcfg : ∀ c, (chanAt (sampleEvent bus readings s) c).cfg = (chanAt s c).cfg := fun c => by
    rw [chanAt_sampleEvent]
    obtain ⟨m, so, n, due, h⟩ := sampleChannel_frame (s.ms + 1) (min bus 6000) readings[c] (chanAt s c)
    rw [h]
  have h := sampleEvent_eq bus readings s
  generalize sampleEvent bus readings s = t at h hcfg ⊢
  rw [h] at hcfg ⊢
  exact ⟨rfl, rfl, rfl, hcfg, rfl, rfl, rfl, rfl, rfl, rfl, rfl, Nat.le_refl _⟩

theorem policyKept_slotEnd (s : State) : PolicyKept s (slotEnd s) := by
  have hcfg : ∀ c, (chanAt (slotEnd s) c).cfg = (chanAt s c).cfg := fun c => by
    rw [chanAt_slotEnd]
    exact (closeEntries_policy s.admitted s).2 c
  obtain ⟨cs, en, fr, rp, ta, h, hfr⟩ := slotEnd_frame s
  rw [h] at hcfg ⊢
  exact ⟨rfl, rfl, rfl, hcfg, rfl, rfl, rfl, rfl, rfl, rfl, rfl, hfr⟩

theorem slotStartChannel_cfg (g : Globals) (now len : Nat) (listed exchange : Bool) (ch : Channel) :
    (slotStartChannel g now len listed exchange ch).cfg = ch.cfg := by
  cases listed
  · rw [slotStartChannel_of_unlisted]
  · rw [slotStartChannel_of_listed]

theorem policyKept_slotAdmitted (s : State) : PolicyKept s (slotAdmitted s) := by
  have hcfg : ∀ c, (chanAt (slotAdmitted s) c).cfg = (chanAt s c).cfg := fun c => by
    obtain ⟨n, h, -⟩ := chanAt_countSheds_range (slotBudget s).shed (slotBase s) c
    rw [chanAt_slotAdmitted, slotStartChannel_cfg, h, chanAt_slotBase]
  obtain ⟨low, en, ta, h⟩ := slotAdmitted_policy s
  generalize slotAdmitted s = t at h hcfg ⊢
  rw [h] at hcfg ⊢
  exact ⟨rfl, rfl, rfl, hcfg, rfl, rfl, rfl, rfl, rfl, rfl, rfl, Nat.le_refl _⟩

theorem policyKept_beginSlot (s : State) : PolicyKept s (beginSlot s) :=
  (policyKept_slotAdmitted s).trans (keeps_beginSlot s).policy

theorem policyKept_exec {i : Instr} {s t : State} (h1 : i ≠ .frameOpening) (h2 : i ≠ .deviceReset) (h : exec i s = .next t) :
    PolicyKept s t := by
  cases hi : timebaseStep i with
  | false =>
    obtain ⟨t', ht', hkeeps⟩ := exec_keeps hi s
    rw [h] at ht'
    cases ht'
    exact hkeeps.policy
  | true =>
    cases i with
    | deviceReset => exact absurd rfl h2
    | frameOpening => exact absurd rfl h1
    | resetRelease adr1 adr0 =>
      cases h
      split
      · exact (policyKept_write s _ s.slotIndex _ _).trans (policyKept_beginSlot _)
      · exact .refl s
    | sampleEvent bus readings =>
      exact of_whenLive_ready (I := PolicyKept s) (.refl s) (fun _ _ => policyKept_sampleEvent bus readings s) h
    | slotEnd => exact of_whenLive_ready (I := PolicyKept s) (.refl s) (fun _ _ => policyKept_slotEnd s) h
    | slotStart =>
      refine of_whenLive_ready (I := PolicyKept s) (.refl s) (fun _ hd => ?_) h
      rw [slotStart_eq hd]
      exact (policyKept_write s s.inReset _ s.strap1 s.strap0).trans (policyKept_beginSlot _)
    | _ => cases hi

/-- Settles O54: every step outside the frame opening keeps the policy. -/
theorem policyFixedWithinFrame : Obligations.PolicyFixedWithinFrame := by
  unfold Obligations.PolicyFixedWithinFrame
  intro i s t h1 h2 h
  obtain ⟨g1, g2, g3, g4, g5, g6, g7, g8, g9, g10, g11, g12⟩ := policyKept_exec h1 h2 h
  exact ⟨g1, g2, g3, g4, g5, g6, g7, g8, g9, g10, g11, g12⟩

end Sys2Proof.Machine
end

/-! ## The ranges that every step keeps (R1, R8, R12, R21, R41, R48, R51, R57, R65, R81, R85, R88, R116, R133, R157, R172) -/

section
namespace Sys2Proof.Machine

/-! ### The timebase, the roster, the admitted list and the pending edits -/

theorem rowAt_setRow (r : RowIndex) (row : Row) (s : State) (d : RowIndex) :
    rowAt (setRow r row s) d = if d = r then row else rowAt s d := by
  unfold rowAt setRow
  by_cases h : d = r
  · simp [h]
  · have hv : r.val ≠ d.val := fun h0 => h (Fin.ext h0.symm)
    simp [h, hv]

theorem membersInRange_append {ms : List Chan} (h : MembersInRange ms) {c : Chan} (hc : c ∉ ms) (hlen : ms.length < 4) :
    MembersInRange (ms ++ [c]) := by
  refine ⟨by rw [List.length_append]; exact hlen, ?_⟩
  rw [← List.concat_eq_append, List.nodup_concat]
  exact ⟨hc, h.2⟩

theorem membersInRange_erase {ms : List Chan} (h : MembersInRange ms) (c : Chan) : MembersInRange (ms.erase c) :=
  ⟨Nat.le_trans List.length_erase_le h.1, h.2.erase c⟩

/-- `FrameInRange` speaks only of what the timebase alone writes, and of the pending edits. -/
theorem Quiet.frameInRange {s t : State} (k : Quiet s t) (h : FrameInRange s) : FrameInRange t := by
  obtain ⟨h1, h2, h3, h4, h5, h6, h7, h8, h9⟩ := h
  have hlayout : t.layout = s.layout := congrArg Held.layout k.held
  have hslot : t.slotIndex = s.slotIndex := congrArg Held.slotIndex k.held
  have hrotor : t.rotor = s.rotor := congrArg Held.rotor k.held
  have htime : t.slotTime = s.slotTime := congrArg Held.slotTime k.held
  have hroster : t.roster = s.roster := congrArg Held.roster k.held
  have hadmitted : t.admitted = s.admitted := congrArg Held.admitted k.held
  have hglobals : t.globals = s.globals := congrArg Held.globals k.held
  have hrows : ∀ r, rowAt t r = rowAt s r := fun r => by rw [rowAt, hroster]; rfl
  refine ⟨hlayout ▸ h1, k.frame ▸ h2, ?_, hrotor ▸ h4, ?_, fun r => (hrows r).symm ▸ h6 r, hadmitted ▸ h7, hglobals ▸ h8,
    k.edits h9⟩
  · rw [hslot, hlayout]
    exact h3
  · rw [htime, hlayout]
    exact h5

theorem FrameInRange.setRow {s : State} (h : FrameInRange s) (r : RowIndex) {row : Row} (hr : MembersInRange row.members) :
    FrameInRange (setRow r row s) := by
  obtain ⟨h1, h2, h3, h4, h5, h6, h7⟩ := h
  refine ⟨h1, h2, h3, h4, h5, fun d => ?_, h7⟩
  rw [rowAt_setRow]
  split
  · exact hr
  · exact h6 d

/-- An edit in range keeps a frame in range at its opening, where the slot index and time are at 0. -/
theorem FrameInRange.applyEdit {s : State} (h : FrameInRange s) (hindex : s.slotIndex = 0) (htime : s.slotTime = 0) {e : Edit}
    (he : EditInRange e) : FrameInRange (applyEdit s e) := by
  obtain ⟨poster, tag, content⟩ := e
  have hrow : ∀ r, MembersInRange (rowAt s r).members := by
    obtain ⟨-, -, -, -, -, h6, -⟩ := h
    exact h6
  cases content with
  | rowSet r fd ex ms => exact h.setRow r he
  | rowAdd r c =>
    simp only [Machine.applyEdit]
    split
    · exact (quiet_report ..).frameInRange h
    · rename_i hc
      split
      · exact (quiet_report ..).frameInRange h
      · rename_i hlen
        exact h.setRow r (membersInRange_append (hrow r) (by simpa using hc) (Nat.lt_of_not_le hlen))
  | rowDrop r c =>
    simp only [Machine.applyEdit]
    split
    · exact h.setRow r (membersInRange_erase (hrow r) c)
    · exact (quiet_report ..).frameInRange h
  | channelConfig c cfg => exact h
  | layout l =>
    obtain ⟨-, h2, -, h4, -, h6⟩ := h
    refine ⟨he, h2, ?_, h4, ?_, h6⟩
    · exact hindex.symm ▸ Nat.lt_of_lt_of_le (by decide) he.1
    · exact htime.symm ▸ Nat.zero_le _
  | globals g =>
    obtain ⟨h1, h2, h3, h4, h5, h6, h7, -, h9⟩ := h
    exact ⟨h1, h2, h3, h4, h5, h6, h7, he, h9⟩
  | classHold st df => exact h
  | floors fl level => exact h

theorem applyEdit_timebase (s : State) (e : Edit) :
    (applyEdit s e).slotIndex = s.slotIndex ∧ (applyEdit s e).slotTime = s.slotTime := by
  obtain ⟨ro, la, gl, st, df, fl, al, cs, sv, en, h⟩ := applyEdit_frame s e
  rw [h]
  exact ⟨rfl, rfl⟩

theorem FrameInRange.advanceFrame {s : State} (h : FrameInRange s) : FrameInRange (advanceFrame s) := by
  obtain ⟨h1, -, -, -, -, h6⟩ := h
  exact ⟨h1, Nat.mod_lt _ (by decide), Nat.lt_of_lt_of_le (by decide : 0 < 4) h1.1, Nat.mod_lt _ (by decide), Nat.zero_le _, h6⟩

theorem FrameInRange.edited {s : State} (h : FrameInRange s) : FrameInRange (editedFrame s) := by
  have hedits : EditsInRange s := by
    obtain ⟨-, -, -, -, -, -, -, -, h9⟩ := h
    exact h9
  have hall := List.foldlRecOn s.edits Machine.applyEdit
    (motive := fun u => FrameInRange u ∧ u.slotIndex = 0 ∧ u.slotTime = 0) ⟨h.advanceFrame, rfl, rfl⟩ fun u hu e he => by
      obtain ⟨hin, hindex, htime⟩ := hu
      obtain ⟨hi, ht⟩ := applyEdit_timebase u e
      exact ⟨hin.applyEdit hindex htime (hedits e he), hi.trans hindex, ht.trans htime⟩
  exact hall.1

theorem FrameInRange.frameOpening {s : State} (h : FrameInRange s) : FrameInRange (frameOpening s) := by
  rw [frameOpening_frame]
  obtain ⟨h1, h2, h3, h4, h5, h6, h7, h8, -⟩ := h.edited
  exact ⟨h1, h2, h3, h4, h5, h6, h7, h8, fun _ h0 => nomatch h0⟩

theorem FrameInRange.sampleEvent {s : State} (h : FrameInRange s) (hlen : s.slotTime < s.layout.len) (bus : Nat)
    (readings : Vector Reading 24) : FrameInRange (sampleEvent bus readings s) := by
  obtain ⟨h1, h2, h3, h4, -, h6⟩ := h
  rw [sampleEvent_eq]
  exact ⟨h1, h2, h3, h4, hlen, h6⟩

theorem FrameInRange.slotEnd {s : State} (h : FrameInRange s) : FrameInRange (slotEnd s) := by
  obtain ⟨cs, en, fr, rp, ta, he, -⟩ := slotEnd_frame s
  rw [he]
  exact h

theorem currentRow_slotBase (s : State) : currentRow (slotBase s) = currentRow s := by
  obtain ⟨low, n, en, h⟩ := slotBase_eq s
  rw [h]
  rfl

/-- A slot start keeps a frame in range, wherever the slot's time stood. -/
theorem FrameInRange.slotAdmitted {s : State} (h : FrameInRange { s with slotTime := 0 }) : FrameInRange (slotAdmitted s) := by
  obtain ⟨h1, h2, h3, h4, h5, h6, -, h8⟩ := h
  have hadmitted : AdmittedInRange (slotBudget s).entries :=
    admittedInRange_admission _ (by rw [currentRow_slotBase]; exact h6 _)
  obtain ⟨low, en, ta, he⟩ := slotAdmitted_policy s
  rw [he]
  exact ⟨h1, h2, h3, h4, h5, h6, hadmitted, h8⟩

/-- The slot index a slot start moves to is one of the layout's. -/
theorem FrameInRange.started {s : State} (h : FrameInRange s) (hready : slotStartReady s = true) :
    FrameInRange { s with slotIndex := startedIndex s, slotTime := 0 } := by
  obtain ⟨h1, h2, h3, h4, -, h6⟩ := h
  refine ⟨h1, h2, ?_, h4, Nat.zero_le _, h6⟩
  change startedIndex s < s.layout.slots
  unfold startedIndex
  rcases (slotStartReady_iff s).1 hready with hp | ⟨hp, hne⟩
  · simpa [hp] using h3
  · simp only [hp, if_true]
    omega

theorem stepKeeps_frameInRange : StepKeeps FrameInRange where
  queue := fun _ h => h
  kept := fun k h => k.toQuiet.frameInRange h
  reset := frameInRange_reset
  release := fun _ _ _ ⟨h1, h2, h3, h4, _, h6⟩ => FrameInRange.slotAdmitted ⟨h1, h2, h3, h4, Nat.zero_le _, h6⟩
  sample := fun bus readings _ hready h => h.sampleEvent ((sampleReady_iff _).1 hready).2.1 bus readings
  ended := fun _ _ h => h.slotEnd
  opening := fun _ _ h => h.frameOpening
  start := fun _ hready h => FrameInRange.slotAdmitted (h.started hready)

/-! ### The account -/

theorem Quiet.accountInRange {s t : State} (k : Quiet s t) (h : AccountInRange s) : AccountInRange t := by
  obtain ⟨h1, h2, h3, h4, h5, h6, h7, h8, h9, h10⟩ := h
  obtain ⟨hreserve, hpending, hlife⟩ := k.settings ⟨h1, h4, h5⟩
  have hlatched : t.grant.latched = s.grant.latched := congrArg Held.latched k.held
  have hfr : t.grant.fr = s.grant.fr := congrArg Held.fr k.held
  have halarm : t.alarmLevel = s.alarmLevel := congrArg Held.alarmLevel k.held
  have hfloor : t.floor = s.floor := congrArg Held.floor k.held
  have hbus : t.busSample = s.busSample := congrArg Held.busSample k.held
  have htallies : t.tallies = s.tallies := congrArg Held.tallies k.held
  exact ⟨hreserve, by rw [hfr, hlatched]; exact h2, hlatched ▸ h3, hpending, hlife, halarm ▸ h6, hfloor ▸ h7, hbus ▸ h8,
    htallies ▸ h9, k.edits h10⟩

theorem tallyAdd_le (t n : Nat) : tallyAdd t n ≤ 4294967295 := Nat.min_le_left _ _

theorem AccountInRange.closeEntry {s : State} (h : AccountInRange s) (e : Entry) : AccountInRange (closeEntry s e) := by
  obtain ⟨h1, h2, h3, h4, h5, h6, h7, h8, ⟨-, -, -, t4, t5, t6⟩, h10⟩ := h
  obtain ⟨cs, en, he⟩ := closeEntry_account s e
  rw [he]
  exact ⟨Nat.le_trans (Nat.sub_le _ _) h1, Nat.le_trans (Nat.sub_le _ _) h2, h3, h4, h5, h6, h7, h8,
    ⟨tallyAdd_le _ _, tallyAdd_le _ _, tallyAdd_le _ _, t4, t5, t6⟩, h10⟩

theorem AccountInRange.slotEnd {s : State} (h : AccountInRange s) : AccountInRange (slotEnd s) := by
  have hclosed := List.foldlRecOn s.admitted Machine.closeEntry (motive := AccountInRange) h fun _ hu e _ => hu.closeEntry e
  by_cases hlast : s.slotIndex + 1 = s.layout.slots
  · rw [slotEnd_of_last hlast]
    obtain ⟨h1, h2, h3, h4, h5, h6, h7, h8, -, h10⟩ := hclosed
    exact ⟨h1, h2, h3, h4, h5, h6, h7, h8, talliesInRange_zero, h10⟩
  · rw [slotEnd_of_not_last hlast]
    exact hclosed

theorem AccountInRange.sampleEvent {s : State} (h : AccountInRange s) (bus : Nat) (readings : Vector Reading 24) :
    AccountInRange (sampleEvent bus readings s) := by
  obtain ⟨h1, h2, h3, h4, h5, h6, h7, -, h9⟩ := h
  rw [sampleEvent_eq]
  exact ⟨h1, h2, h3, h4, h5, h6, h7, Nat.min_le_right _ _, h9⟩

theorem AccountInRange.slotAdmitted {s : State} (h : AccountInRange s) : AccountInRange (slotAdmitted s) := by
  obtain ⟨h1, h2, h3, h4, h5, h6, h7, h8, ⟨t1, t2, t3, t4, t5, t6⟩, h10⟩ := h
  have hbase : AccountInRange (slotBase s) := by
    unfold slotBase
    rw [evaluateBus_eq]
    exact ⟨h1, h2, h3, h4, h5, h6, h7, h8, ⟨t1, t2, t3, t4, t5, Nat.min_le_left _ _⟩, h10⟩
  obtain ⟨b1, b2, b3, b4, b5, b6, b7, b8, ⟨u1, u2, u3, -, -, u6⟩, b10⟩ := hbase
  rw [slotAdmitted_frame]
  exact ⟨b1, b2, b3, b4, b5, b6, b7, b8, ⟨u1, u2, u3, tallyAdd_le _ _, tallyAdd_le _ _, u6⟩, b10⟩

theorem AccountInRange.applyEdit {s : State} (h : AccountInRange s) {e : Edit} (he : EditInRange e) :
    AccountInRange (applyEdit s e) := by
  obtain ⟨poster, tag, content⟩ := e
  cases content with
  | rowSet r fd ex ms => exact h
  | rowAdd r c =>
    simp only [Machine.applyEdit]
    split
    · exact (quiet_report ..).accountInRange h
    · split
      · exact (quiet_report ..).accountInRange h
      · exact h
  | rowDrop r c =>
    simp only [Machine.applyEdit]
    split
    · exact h
    · exact (quiet_report ..).accountInRange h
  | channelConfig c cfg => exact h
  | layout l => exact h
  | globals g => exact h
  | classHold st df => exact h
  | floors fl level =>
    obtain ⟨h1, h2, h3, h4, h5, -, -, h8⟩ := h
    exact ⟨h1, h2, h3, h4, h5, he.2, he.1, h8⟩

theorem AccountInRange.edited {s : State} (h : AccountInRange s) : AccountInRange (editedFrame s) := by
  have hedits : EditsInRange s := by
    obtain ⟨-, -, -, -, -, -, -, -, -, h10⟩ := h
    exact h10
  exact List.foldlRecOn s.edits Machine.applyEdit (motive := AccountInRange) h fun _ hu e he => hu.applyEdit (hedits e he)

/-- The grant as latched: the remainder is the whole latched grant (R50, R51). -/
theorem latchGrant_grant (s : State) : ∃ latched life reported,
    (latchGrant s).grant =
      { s.grant with latched := latched, fr := latched * 1000, life := life, expiryReported := reported } ∧
      (s.grant.pending ≤ 1000000 → latched ≤ 1000000) ∧ life ≤ s.grant.life := by
  cases hu : s.grant.unlimited
  · rcases Nat.eq_zero_or_pos s.grant.life with hl | hl
    · exact ⟨0, _, true, latchGrant_grant_of_spent hu hl, fun _ => Nat.zero_le _, Nat.le_refl _⟩
    · refine ⟨s.grant.pending, s.grant.life - 1, s.grant.expiryReported, ?_, id, Nat.sub_le _ _⟩
      rw [latchGrant_of_life hu hl]
  · refine ⟨s.grant.pending, s.grant.life, s.grant.expiryReported, ?_, id, Nat.le_refl _⟩
    rw [latchGrant_of_unlimited hu]

theorem AccountInRange.frameOpening {s : State} (h : AccountInRange s) : AccountInRange (frameOpening s) := by
  obtain ⟨h1, -, -, h4, h5, h6, h7, h8, h9, -⟩ := h.edited
  obtain ⟨latched, life, reported, hg, hlatched, hlife⟩ := latchGrant_grant (editedFrame s)
  rw [frameOpening_frame, frameOpening_grant, hg]
  exact ⟨h1, Nat.le_of_eq (Nat.mul_comm _ _), hlatched h4, h4, Nat.le_trans hlife h5, h6, h7, h8, h9, fun _ h0 => nomatch h0⟩

theorem stepKeeps_accountInRange : StepKeeps AccountInRange where
  queue := fun _ h => h
  kept := fun k h => k.toQuiet.accountInRange h
  reset := accountInRange_reset
  release := fun _ _ _ h => AccountInRange.slotAdmitted h
  sample := fun bus readings _ _ h => h.sampleEvent bus readings
  ended := fun _ _ h => h.slotEnd
  opening := fun _ _ h => h.frameOpening
  start := fun _ _ h => AccountInRange.slotAdmitted h

/-! ### The channels -/

theorem ChannelInRange.closeChannel {ch : Channel} (h : ChannelInRange ch) : ChannelInRange (closeChannel ch) := by
  obtain ⟨hp, hl⟩ := (channelInRange_iff ch).1 h
  exact (channelInRange_iff _).2
    ⟨{ hp with sub := Nat.mod_lt _ (by decide), total := Nat.min_le_left _ _ }, { hl with }⟩

theorem ChannelInRange.withSampling {ch : Channel} (h : ChannelInRange ch) (b : Bool) :
    ChannelInRange { ch with meter := { ch.meter with sampling := b } } := by
  obtain ⟨hp, hl⟩ := (channelInRange_iff ch).1 h
  exact (channelInRange_iff _).2 ⟨{ hp with }, { hl with }⟩

theorem ChannelInRange.configureChannel {ch : Channel} (h : ChannelInRange ch) {cfg : ChanConfig} (hc : ConfigInRange cfg)
    (t : Nat) : ChannelInRange (configureChannel cfg t ch) := by
  have hsw := ((channelInRange_iff ch).1 h).1.sw.configured hc t
  obtain ⟨hp, hl⟩ := (channelInRange_iff _).1 (h.withSwitch hsw (configureSwitch_openLoad cfg t ch.sw))
  exact (channelInRange_iff _).2 ⟨{ hp with cfg := hc }, { hl with }⟩

theorem ChannelInRange.countFrame {ch : Channel} (h : ChannelInRange ch) : ChannelInRange (countFrame ch) := by
  have hcounted : ∀ k, ch.test = some k → ChannelInRange { ch with test := some { k with remaining := k.remaining - 1 } } := by
    intro k hk
    obtain ⟨hp, hl⟩ := (channelInRange_iff ch).1 h
    refine (channelInRange_iff _).2 ⟨{ hp with test := fun k' hk' => ?_ }, { hl with misses := fun h0 => hl.misses ?_ }⟩
    · cases hk'
      obtain ⟨h1, h2, h3, h4⟩ := hp.test k hk
      exact ⟨h1, h2, Nat.le_trans (Nat.sub_le _ _) h3, h4⟩
    · simpa [hk] using h0
  unfold Machine.countFrame
  split
  · rename_i k hk
    split
    · rename_i hphase
      simp only
      split
      · exact (hcounted k hk).resumeChannel false (by simp [hphase])
      · exact hcounted k hk
    · exact h
  · exact h

/-- What a slot start does of a channel beside its shed count. -/
theorem ChannelInRange.slotStartChannel {ch : Channel} (h : ChannelInRange ch) (g : Globals) (now len : Nat)
    (listed exchange : Bool) : ChannelInRange (slotStartChannel g now len listed exchange ch) := by
  obtain ⟨hp, hl⟩ := (channelInRange_iff ch).1 h
  cases listed
  · rw [slotStartChannel_of_unlisted]
    have hload := openSwitch_openLoad g now ch.sw
    exact (channelInRange_iff _).2 ⟨{ hp with sw := hp.sw.opened g now, openLoad := hload.symm ▸ hp.openLoad },
      { hl with openLoad := hload.symm ▸ hl.openLoad }⟩
  · rw [slotStartChannel_of_listed]
    cases ch.sw.switchOn.isSome
    · exact (channelInRange_iff _).2 ⟨{ hp with sw := hp.sw.closed g ch.cfg now, openLoad := Nat.zero_le _ },
        { hl with openLoad := fun _ _ => Nat.zero_le _ }⟩
    · exact (channelInRange_iff _).2 ⟨{ hp with }, { hl with }⟩

theorem ChannelInRange.withShed {ch : Channel} (h : ChannelInRange ch) {n : Nat} (hn : n ≤ 65535) :
    ChannelInRange { ch with shed := n } := by
  obtain ⟨hp, hl⟩ := (channelInRange_iff ch).1 h
  exact (channelInRange_iff _).2 ⟨{ hp with shed := hn }, { hl with }⟩

theorem receiveMark_arg (t average : Nat) (e : Exchange) : (receiveMark t average e).arg = e.arg := by
  obtain ⟨ms, h, -⟩ := receiveMark_frame t average e
  rw [h]

theorem ChannelInRange.millisecondClosed {ch : Channel} (h : ChannelInRange ch) (t : Nat) (r : Reading) :
    ChannelInRange (millisecondClosed t r ch) := by
  have hp := ((channelInRange_iff ch).1 h).1
  have hsw : SwitchInRange { ch.sw with sensed := r.current, closedMs := armed ch.sw } := hp.sw
  refine (h.withSwitch hsw rfl).withExchange _ (fun e he => ?_) false
  obtain ⟨e', he', rfl⟩ := Option.map_eq_some_iff.1 he
  rw [receiveMark_arg]
  exact hp.exchange e' he'

theorem ChannelInRange.metered {ch : Channel} (h : ChannelInRange ch) (t v : Nat) {i : Nat} (hi : i ≤ 1023) :
    ChannelInRange (metered t v i ch) := by
  have hsw := ((channelInRange_iff ch).1 h).1.sw.peakTaken t hi
  obtain ⟨hp, hl⟩ := (channelInRange_iff _).1 (h.withSwitch hsw (takePeak_openLoad t i ch.sw))
  exact (channelInRange_iff _).2 ⟨{ hp with residue := Nat.mod_lt _ (by decide) }, { hl with }⟩

theorem openLoadLimit_le (life : Life) (code : Fin 2) : openLoadLimit life code ≤ 160 := by
  unfold openLoadLimit
  split
  · decide
  · split <;> decide

/-- With no LOST due a low reading finds the count below its bound; the one that reaches the limit raises LOST (R80). -/
theorem ChannelInRange.countOpenLoad {ch : Channel} (h : ChannelInRange ch) (hlost : ch.lostDue = false) (t i : Nat) :
    ChannelInRange (countOpenLoad t i ch) := by
  by_cases hlife : ch.life = .fed ∨ ch.life = .resuming
  · obtain ⟨hp, hl⟩ := (channelInRange_iff ch).1 h
    rcases Nat.lt_or_ge i 5 with hi | hi
    · cases hq : qualifies t ch
      · rw [countOpenLoad_of_unqualified hq hi]
        exact h
      · rw [countOpenLoad_of_low hq hi]
        have hload := hl.openLoad hlife hlost
        have hlimit := openLoadLimit_le ch.life ch.cfg.openLoadCode
        refine (channelInRange_iff _).2 ⟨{ hp with openLoad := Nat.succ_le_succ hload }, { hl with openLoad := fun _ hdue => ?_ }⟩
        have hbelow := (Bool.or_eq_false_iff.1 hdue).2
        simp only [decide_eq_false_iff_not, not_le] at hbelow ⊢
        omega
    · rw [countOpenLoad_of_load hlife t hi]
      exact (channelInRange_iff _).2 ⟨{ hp with openLoad := Nat.zero_le _ }, { hl with openLoad := fun _ _ => Nat.zero_le _ }⟩
  · rw [countOpenLoad_of_uncounted (not_or.1 hlife)]
    exact h

theorem ChannelInRange.sampleChannel {ch : Channel} (h : ChannelInRange ch) (hlost : ch.lostDue = false) (t v : Nat) (r : Reading) :
    ChannelInRange (sampleChannel t v r ch) := by
  cases hs : ch.meter.sampling
  · rw [sampleChannel_of_idle hs]
    exact h.millisecondClosed t r
  · rw [sampleChannel_of_sampling hs]
    exact ((h.metered t v (Nat.min_le_right _ _)).countOpenLoad hlost t _).millisecondClosed t r

/-- A sample event waits until every LOST has been handed on (R80). -/
theorem lostDue_of_sampleReady {s : State} (h : sampleReady s = true) (c : Chan) : (chanAt s c).lostDue = false := by
  obtain ⟨-, -, htimely⟩ := (sampleReady_iff s).1 h
  obtain ⟨-, -, -, hchan⟩ := (timely_iff_spelled _ s).1 htimely
  obtain ⟨-, -, -, -, -, hlost⟩ := (le_chanDeadlines_iff _ _ _).1 (hchan c)
  refine Bool.eq_false_iff.2 fun hdue => ?_
  have hle := hlost hdue
  simp only [us] at hle
  omega

/-- An edit configures one channel or leaves them all. -/
theorem chanAt_applyEdit (s : State) (e : Edit) (c : Chan) : chanAt (applyEdit s e) c = chanAt s c ∨
    ∃ cfg t, (EditInRange e → ConfigInRange cfg) ∧ chanAt (applyEdit s e) c = configureChannel cfg t (chanAt s c) := by
  obtain ⟨poster, tag, content⟩ := e
  cases content with
  | rowSet r fd ex ms => exact .inl rfl
  | rowAdd r d =>
    refine .inl ?_
    simp only [applyEdit]
    split
    · exact chanAt_report ..
    · split
      · exact chanAt_report ..
      · rfl
  | rowDrop r d =>
    refine .inl ?_
    simp only [applyEdit]
    split
    · rfl
    · exact chanAt_report ..
  | channelConfig d cfg =>
    change chanAt (modChan d (configureChannel cfg (us s.ms)) s) c = _ ∨ _
    by_cases h : c = d
    · subst h
      exact .inr ⟨cfg, us s.ms, id, chanAt_modChan_self ..⟩
    · exact .inl (chanAt_modChan_other h ..)
  | layout l => exact .inl rfl
  | globals g => exact .inl rfl
  | classHold st df => exact .inl rfl
  | floors fl level => exact .inl rfl

/-- What the edits of a frame opening leave of a channel, where a configuration in range leaves it so. -/
theorem chanAt_editedFrame {P : Channel → Prop} {s : State} (he : EditsInRange s) (c : Chan) (h : P (chanAt s c))
    (hcfg : ∀ cfg t x, ConfigInRange cfg → P x → P (configureChannel cfg t x)) : P (chanAt (editedFrame s) c) := by
  refine List.foldlRecOn s.edits applyEdit (motive := fun u => P (chanAt u c)) h fun u hu e hmem => ?_
  rcases chanAt_applyEdit u e c with heq | ⟨cfg, t, hin, heq⟩
  · rw [heq]
    exact hu
  · rw [heq]
    exact hcfg cfg t _ (hin (he e hmem)) hu

theorem ChannelsInRange.slotEnd {s : State} (h : ChannelsInRange s) : ChannelsInRange (slotEnd s) := by
  obtain ⟨hch, hframe⟩ := h
  have hclosed := List.foldlRecOn s.admitted closeEntry (motive := fun u => ∀ c, ChannelInRange (chanAt u c)) hch
    fun u hu e _ c => by
      rw [chanAt_closeEntry]
      split
      · exact (hu c).closeChannel
      · exact hu c
  refine ⟨fun c => ?_, ?_⟩
  · rw [chanAt_slotEnd]
    exact (hclosed c).withSampling false
  · obtain ⟨cs, en, fr, rp, ta, he, -⟩ := slotEnd_frame s
    rw [he]
    exact hframe

theorem ChannelsInRange.sampleEvent {s : State} (h : ChannelsInRange s) (hready : sampleReady s = true) (bus : Nat)
    (readings : Vector Reading 24) : ChannelsInRange (sampleEvent bus readings s) := by
  obtain ⟨hch, hframe⟩ := h
  refine ⟨fun c => ?_, ?_⟩
  · rw [chanAt_sampleEvent]
    exact (hch c).sampleChannel (lostDue_of_sampleReady hready c) _ _ _
  · rw [sampleEvent_eq]
    exact hframe

theorem ChannelsInRange.frameOpening {s : State} (h : ChannelsInRange s) : ChannelsInRange (frameOpening s) := by
  obtain ⟨hch, -, hedits⟩ := h
  refine ⟨fun c => ?_, ?_, ?_⟩
  · rw [chanAt_frameOpening]
    exact (chanAt_editedFrame hedits c (hch c) fun _ _ _ hcfg hx => hx.configureChannel hcfg _).countFrame
  · obtain ⟨ro, la, gl, st, df, fl, al, cs, sv, en, he⟩ := applyEdit_foldl_frame s.edits (advanceFrame s)
    rw [frameOpening_frame, editedFrame, he]
    exact Nat.mod_lt _ (by decide)
  · rw [frameOpening_frame]
    exact fun _ h0 => nomatch h0

theorem ChannelsInRange.slotAdmitted {s : State} (h : ChannelsInRange s) : ChannelsInRange (slotAdmitted s) := by
  obtain ⟨hch, hframe⟩ := h
  refine ⟨fun c => ?_, ?_⟩
  · obtain ⟨n, hn, hshed⟩ := chanAt_countSheds_range (slotBudget s).shed (slotBase s) c
    rw [chanAt_slotBase] at hn hshed
    rw [chanAt_slotAdmitted, hn]
    have hp := ((channelInRange_iff _).1 (hch c)).1
    exact ((hch c).withShed (hshed hp.shed)).slotStartChannel _ _ _ _ _
  · obtain ⟨low, en, ta, he⟩ := slotAdmitted_policy s
    rw [he]
    exact hframe

theorem stepKeeps_channelsInRange : StepKeeps ChannelsInRange where
  queue := fun _ h => h
  kept := fun k ⟨hch, hframe, hedits⟩ => ⟨k.channels hframe hch, k.frame ▸ hframe, k.edits hedits⟩
  reset := channelsInRange_reset
  release := fun _ _ _ h => ChannelsInRange.slotAdmitted h
  sample := fun bus readings _ hready h => h.sampleEvent hready bus readings
  ended := fun _ _ h => h.slotEnd
  opening := fun _ _ h => h.frameOpening
  start := fun _ _ h => ChannelsInRange.slotAdmitted h

end Sys2Proof.Machine
end

/-! ## The forecasts, the slot accumulators and the queues that every step keeps in range (R39, R41, R44, R145, R157, R172) -/

section
namespace Sys2Proof.Machine

/-! ### A channel's forecast and meter -/

/-- A channel's forecast and meter are in range after `n` samples of the slot. -/
structure MeterInRange (n : Nat) (ch : Channel) : Prop where
  forecast : ch.forecast ≤ 30690000
  defaultForecast : ch.cfg.defaultForecast ≤ 10000
  residue : ch.meter.residue < 100
  acc : 100 * ch.meter.acc + ch.meter.residue ≤ 99 + 6138000 * n

/-- A channel without a slot energy, and with no more to come. -/
structure MeterAtRest (ch : Channel) : Prop where
  acc : ch.meter.acc = 0
  sampling : ch.meter.sampling = false

theorem energyInRange_iff (s : State) (c : Chan) : EnergyInRange s c ↔
    MeterInRange s.slotTime (chanAt s c) ∧ (isAdmitted s c = false → MeterAtRest (chanAt s c)) ∧
      (s.phase ≠ .running ∨ s.inReset = true → MeterAtRest (chanAt s c)) := by
  constructor
  · rintro ⟨h1, h2, h3, h4, h5, h6⟩
    exact ⟨⟨h1, h2, h3, h4⟩, fun h => ⟨(h5 h).1, (h5 h).2⟩, fun h => ⟨(h6 h).1, (h6 h).2⟩⟩
  · rintro ⟨⟨h1, h2, h3, h4⟩, h5, h6⟩
    exact ⟨h1, h2, h3, h4, fun h => ⟨(h5 h).acc, (h5 h).sampling⟩, fun h => ⟨(h6 h).acc, (h6 h).sampling⟩⟩

theorem MeterInRange.same {n : Nat} {x y : Channel} (h : MeterInRange n x) (k : SameMeasure x y) : MeterInRange n y where
  forecast := by
    rcases k.forecast with hk | hk
    · exact hk ▸ h.forecast
    · have hd := h.defaultForecast
      omega
  defaultForecast := k.cfg ▸ h.defaultForecast
  residue := k.residue ▸ h.residue
  acc := by
    rw [k.acc, k.residue]
    exact h.acc

theorem MeterAtRest.same {x y : Channel} (h : MeterAtRest x) (k : SameMeasure x y) : MeterAtRest y :=
  ⟨k.acc.trans h.acc, k.sampling h.sampling⟩

/-- A meter at rest is in range at the start of any slot. -/
theorem MeterInRange.atRest {n : Nat} {ch : Channel} (h : MeterInRange n ch) (hrest : MeterAtRest ch) (m : Nat) :
    MeterInRange m ch := by
  refine { h with acc := ?_ }
  have hres := h.residue
  have hacc := hrest.acc
  omega

theorem MeterInRange.configureChannel {n : Nat} {ch : Channel} (h : MeterInRange n ch) {cfg : ChanConfig}
    (hc : ConfigInRange cfg) (t : Nat) : MeterInRange n (configureChannel cfg t ch) := by
  obtain ⟨-, -, hdefault, -⟩ := hc
  exact { h with defaultForecast := hdefault }

theorem sameMeasure_countFrame (ch : Channel) : SameMeasure ch (countFrame ch) := by
  unfold countFrame
  split
  · split
    · simp only
      split
      · exact ⟨rfl, .inr rfl, rfl, rfl, id⟩
      · exact ⟨rfl, .inl rfl, rfl, rfl, id⟩
    · exact .refl ch
  · exact .refl ch

/-- A slot holds at most 500 samples, so its energy is within the greatest forecast. -/
theorem MeterInRange.closeChannel {n : Nat} {ch : Channel} (h : MeterInRange n ch) (hn : n ≤ 500) :
    MeterInRange n (closeChannel ch) := by
  obtain ⟨hforecast, hdefault, hres, hacc⟩ := h
  refine ⟨?_, hdefault, hres, ?_⟩
  · change (if ch.entered then ch.forecast else ch.meter.acc) ≤ 30690000
    split
    · exact hforecast
    · omega
  · change 100 * 0 + ch.meter.residue ≤ _
    omega

theorem MeterInRange.withSampling {n : Nat} {ch : Channel} (h : MeterInRange n ch) (b : Bool) :
    MeterInRange n { ch with meter := { ch.meter with sampling := b } } := { h with }

/-- A sample adds at most the product of the greatest readings. -/
theorem addSample_acc_le (m : Meter) {v i : Nat} (hv : v ≤ 6000) (hi : i ≤ 1023) :
    100 * (addSample v i m).acc + (addSample v i m).residue ≤ 100 * m.acc + m.residue + 6138000 := by
  have hmul : v * i ≤ 6138000 := Nat.mul_le_mul hv hi
  have hdiv := Nat.div_add_mod (v * i + m.residue) 100
  change 100 * (m.acc + (v * i + m.residue) / 100) + (v * i + m.residue) % 100 ≤ _
  omega

theorem sampleChannel_forecast (t v : Nat) (r : Reading) (ch : Channel) :
    (sampleChannel t v r ch).forecast = ch.forecast ∧ (sampleChannel t v r ch).cfg = ch.cfg := by
  obtain ⟨m, so, n, due, h⟩ := sampleChannel_frame t v r ch
  rw [h]
  exact ⟨rfl, rfl⟩

theorem MeterInRange.sampleChannel {n : Nat} {ch : Channel} (h : MeterInRange n ch) (t : Nat) {v : Nat} (hv : v ≤ 6000)
    (r : Reading) : MeterInRange (n + 1) (sampleChannel t v r ch) := by
  obtain ⟨hforecast, hcfg⟩ := sampleChannel_forecast t v r ch
  have hacc := h.acc
  cases hs : ch.meter.sampling
  · have hm : (Machine.sampleChannel t v r ch).meter = ch.meter := by
      rw [sampleChannel_of_idle hs]
      rfl
    refine ⟨hforecast ▸ h.forecast, hcfg ▸ h.defaultForecast, hm ▸ h.residue, ?_⟩
    rw [hm]
    omega
  · obtain ⟨hm, -⟩ := sampleChannel_metered (t := t) (v := v) (r := r) hs
    have hadd := addSample_acc_le ch.meter hv (Nat.min_le_right r.current 1023)
    have hres : (addSample v (min r.current 1023) ch.meter).residue < 100 := Nat.mod_lt _ (by decide)
    refine ⟨hforecast ▸ h.forecast, hcfg ▸ h.defaultForecast, hm ▸ hres, ?_⟩
    rw [hm]
    exact Nat.le_trans hadd (by omega)

theorem MeterAtRest.sampleChannel {ch : Channel} (h : MeterAtRest ch) (t v : Nat) (r : Reading) :
    MeterAtRest (sampleChannel t v r ch) := by
  rw [sampleChannel_of_idle h.sampling]
  exact ⟨h.acc, h.sampling⟩

/-! ### The steps and the meters -/

theorem isAdmitted_congr {s t : State} (h : t.admitted = s.admitted) (c : Chan) : isAdmitted t c = isAdmitted s c :=
  congrArg (fun l : List Entry => l.any fun e => e.chan = c) h

theorem mem_admitted_iff (s : State) (c : Chan) : isAdmitted s c = true ↔ c ∈ s.admitted.map Entry.chan := by
  simp [isAdmitted]

theorem Quiet.energiesInRange {s t : State} (k : Quiet s t) (h : EnergiesInRange s) : EnergiesInRange t := by
  obtain ⟨hframe, hch⟩ := h
  refine ⟨k.frameInRange hframe, fun c => ?_⟩
  obtain ⟨hm, hout, hrest⟩ := (energyInRange_iff s c).1 (hch c)
  have htime : t.slotTime = s.slotTime := congrArg Held.slotTime k.held
  have hadmitted : isAdmitted t c = isAdmitted s c := isAdmitted_congr (congrArg Held.admitted k.held) c
  have hphase : t.phase = s.phase := congrArg Held.phase k.held
  have hreset : t.inReset = s.inReset := congrArg Held.inReset k.held
  rw [energyInRange_iff, htime, hadmitted, hphase, hreset]
  exact ⟨hm.same (k.measure c), fun h => (hout h).same (k.measure c), fun h => (hrest h).same (k.measure c)⟩

theorem EnergiesInRange.sampleEvent {s : State} (h : EnergiesInRange s) (hr : s.inReset = false) (hready : sampleReady s = true)
    (bus : Nat) (readings : Vector Reading 24) : EnergiesInRange (sampleEvent bus readings s) := by
  obtain ⟨hframe, hch⟩ := h
  obtain ⟨hphase, hlen, -⟩ := (sampleReady_iff s).1 hready
  refine ⟨hframe.sampleEvent hlen bus readings, fun c => ?_⟩
  obtain ⟨hm, hout, -⟩ := (energyInRange_iff s c).1 (hch c)
  rw [energyInRange_iff, chanAt_sampleEvent, sampleEvent_eq]
  refine ⟨hm.sampleChannel _ (Nat.min_le_right _ _) _, fun h => (hout h).sampleChannel _ _ _, ?_⟩
  rintro (hp | hr')
  · exact absurd hphase hp
  · exact absurd (hr.symm.trans hr') Bool.false_ne_true

/-- After the slot end every meter is at rest: an admitted channel's is folded, any other's was at rest before. -/
theorem EnergiesInRange.slotEnd {s : State} (h : EnergiesInRange s) : EnergiesInRange (slotEnd s) := by
  obtain ⟨hframe, hch⟩ := h
  obtain ⟨⟨-, -, -, hmax, -⟩, -, -, -, htime, -, ⟨-, hnodup⟩, -⟩ := id hframe
  refine ⟨hframe.slotEnd, fun c => ?_⟩
  obtain ⟨hm, hout, -⟩ := (energyInRange_iff s c).1 (hch c)
  have hclosed : MeterInRange s.slotTime (chanAt (s.admitted.foldl closeEntry s) c) ∧
      (chanAt (s.admitted.foldl closeEntry s) c).meter.acc = 0 := by
    rw [chanAt_closeEntries hnodup]
    split
    · exact ⟨hm.closeChannel (Nat.le_trans htime hmax), rfl⟩
    · rename_i hc
      exact ⟨hm, (hout (Bool.eq_false_iff.2 fun h0 => hc ((mem_admitted_iff s c).1 h0))).acc⟩
  obtain ⟨hin, hzero⟩ := hclosed
  have hrest : MeterAtRest (chanAt (Machine.slotEnd s) c) := by
    rw [chanAt_slotEnd]
    exact ⟨hzero, rfl⟩
  have htime' : (Machine.slotEnd s).slotTime = s.slotTime := by
    obtain ⟨cs, en, fr, rp, ta, he, -⟩ := slotEnd_frame s
    rw [he]
  rw [energyInRange_iff, htime']
  refine ⟨?_, fun _ => hrest, fun _ => hrest⟩
  rw [chanAt_slotEnd]
  exact hin.withSampling false

/-- A frame opens with every meter at rest, and leaves it so. -/
theorem EnergiesInRange.frameOpening {s : State} (h : EnergiesInRange s) (hready : frameOpeningReady s = true) :
    EnergiesInRange (frameOpening s) := by
  obtain ⟨hframe, hch⟩ := h
  obtain ⟨hphase, -⟩ := (frameOpeningReady_iff s).1 hready
  have hedits : EditsInRange s := by
    obtain ⟨-, -, -, -, -, -, -, -, h9⟩ := hframe
    exact h9
  refine ⟨hframe.frameOpening, fun c => ?_⟩
  obtain ⟨hm, -, hrest⟩ := (energyInRange_iff s c).1 (hch c)
  have hbefore := hrest (.inl (by rw [hphase]; decide))
  obtain ⟨hin, hafter⟩ := chanAt_editedFrame (P := fun x => MeterInRange s.slotTime x ∧ MeterAtRest x) hedits c ⟨hm, hbefore⟩
    fun _ t _ hcfg ⟨hx, hx0⟩ => ⟨hx.configureChannel hcfg t, ⟨hx0.acc, hx0.sampling⟩⟩
  have hcounted : MeterAtRest (chanAt (Machine.frameOpening s) c) := by
    rw [chanAt_frameOpening]
    exact hafter.same (sameMeasure_countFrame _)
  rw [energyInRange_iff]
  refine ⟨MeterInRange.atRest (n := s.slotTime) ?_ hcounted _, fun _ => hcounted, fun _ => hcounted⟩
  rw [chanAt_frameOpening]
  exact hin.same (sameMeasure_countFrame _)

theorem MeterInRange.slotStartChannel {n : Nat} {ch : Channel} (h : MeterInRange n ch) (g : Globals) (now len : Nat)
    (listed exchange : Bool) : MeterInRange n (slotStartChannel g now len listed exchange ch) := by
  cases listed
  · rw [slotStartChannel_of_unlisted]
    exact { h with }
  · rw [slotStartChannel_of_listed]
    exact { h with }

theorem isAdmitted_slotAdmitted (s : State) (c : Chan) :
    isAdmitted (slotAdmitted s) c = (slotBudget s).entries.any fun e => e.chan = c := by
  obtain ⟨low, en, ta, he⟩ := slotAdmitted_policy s
  rw [he]
  rfl

/-- A slot starts with every meter at rest; only the channels it admits then sample. -/
theorem EnergiesInRange.slotAdmitted {s : State} (hframe : FrameInRange { s with slotTime := 0 }) (hr : s.inReset = false)
    (hch : ∀ c, MeterInRange 0 (chanAt s c) ∧ MeterAtRest (chanAt s c)) : EnergiesInRange (slotAdmitted s) := by
  refine ⟨FrameInRange.slotAdmitted hframe, fun c => ?_⟩
  obtain ⟨hm, hrest⟩ := hch c
  obtain ⟨n, hshed, -⟩ := chanAt_countSheds_range (slotBudget s).shed (slotBase s) c
  rw [chanAt_slotBase] at hshed
  have hm' : MeterInRange 0 { chanAt s c with shed := n } := { hm with }
  have hout : isAdmitted (Machine.slotAdmitted s) c = false → MeterAtRest (chanAt (Machine.slotAdmitted s) c) := fun h0 => by
    rw [chanAt_slotAdmitted, ← isAdmitted_slotAdmitted, h0, hshed, slotStartChannel_of_unlisted]
    exact ⟨hrest.acc, rfl⟩
  have hin : MeterInRange 0 (chanAt (Machine.slotAdmitted s) c) := by
    rw [chanAt_slotAdmitted, hshed]
    exact hm'.slotStartChannel _ _ _ _ _
  obtain ⟨low, en, ta, he⟩ := slotAdmitted_policy s
  have htime : (Machine.slotAdmitted s).slotTime = 0 := by rw [he]
  have hphase : (Machine.slotAdmitted s).phase = .running := by rw [he]
  have hreset : (Machine.slotAdmitted s).inReset = false := by rw [he]; exact hr
  rw [energyInRange_iff, htime, hphase, hreset]
  exact ⟨hin, hout, fun h0 => by simp at h0⟩

theorem EnergiesInRange.atRest {s : State} (h : EnergiesInRange s) (hrest : s.phase ≠ .running ∨ s.inReset = true) (c : Chan) :
    MeterInRange 0 (chanAt s c) ∧ MeterAtRest (chanAt s c) := by
  obtain ⟨hm, -, hidle⟩ := (energyInRange_iff s c).1 (h.2 c)
  exact ⟨hm.atRest (hidle hrest) 0, hidle hrest⟩

theorem stepKeeps_energiesInRange : StepKeeps EnergiesInRange where
  queue := fun _ h => h
  kept := fun k h => k.toQuiet.energiesInRange h
  reset := energiesInRange_reset
  release := fun {s} adr1 adr0 hr h => by
    obtain ⟨h1, h2, h3, h4, -, h6⟩ := h.1
    exact EnergiesInRange.slotAdmitted (s := { s with inReset := false, strap1 := adr1, strap0 := adr0 })
      ⟨h1, h2, h3, h4, Nat.zero_le _, h6⟩ rfl (h.atRest (.inr hr))
  sample := fun bus readings hr hready h => h.sampleEvent hr hready bus readings
  ended := fun _ _ h => h.slotEnd
  opening := fun _ hready h => h.frameOpening hready
  start := fun {s} hr hready h => by
    refine EnergiesInRange.slotAdmitted (s := { s with slotIndex := startedIndex s }) (h.1.started hready) hr (h.atRest (.inl ?_))
    rcases (slotStartReady_iff s).1 hready with hp | ⟨hp, -⟩ <;> simp [hp]

/-! ### The queues -/

/-- The energy port may take what leaves its reply. -/
theorem QueuesBounded.withEnergy {s : State} (h : QueuesBounded s) {en : PortState} (hin : PortInRange 16 en)
    (hreply : en.reply = s.energy.reply) : QueuesBounded { s with energy := en } := by
  obtain ⟨h1, -, h3, h4, h5, h6, h7⟩ := h
  exact ⟨h1, hin, h3, h4, h5, fun h0 => h6 (hreply.symm.trans h0), fun r h0 => h7 r (hreply.symm.trans h0)⟩

theorem QueuesBounded.energyEntered {s : State} (h : QueuesBounded s) (r : Report) :
    QueuesBounded { s with energy := enterRecord 16 r s.energy } :=
  h.withEnergy (h.2.1.entered r) (enterRecord_reply ..)

/-- A charge may enter RESERVE_LOW in the energy queue. -/
theorem QueuesBounded.charge {s : State} (h : QueuesBounded s) (c : Chan) (p : Bool) (e : Nat) :
    QueuesBounded (charge c p e s) := by
  unfold Machine.charge
  simp only
  split
  · exact (quiet_report ..).queues h
  · exact h

theorem QueuesBounded.closeEntry {s : State} (h : QueuesBounded s) (e : Entry) : QueuesBounded (closeEntry s e) :=
  h.charge e.chan e.priority (chanAt s e.chan).meter.acc

theorem QueuesBounded.slotEnd {s : State} (h : QueuesBounded s) : QueuesBounded (slotEnd s) := by
  have hclosed := List.foldlRecOn s.admitted Machine.closeEntry (motive := QueuesBounded) h fun _ hu e _ => hu.closeEntry e
  by_cases hlast : s.slotIndex + 1 = s.layout.slots
  · rw [slotEnd_of_last hlast]
    exact hclosed.energyEntered _
  · rw [slotEnd_of_not_last hlast]
    exact hclosed

theorem QueuesBounded.sampleEvent {s : State} (h : QueuesBounded s) (bus : Nat) (readings : Vector Reading 24) :
    QueuesBounded (sampleEvent bus readings s) := by
  rw [sampleEvent_eq]
  exact h

/-- The comparison of the bus may enter BUS_LOW or BUS_OK in the energy queue. -/
theorem QueuesBounded.evaluateBus {s : State} (h : QueuesBounded s) : QueuesBounded (evaluateBus s) := by
  unfold Machine.evaluateBus
  simp only
  split
  · exact (quiet_report ..).queues h
  · split
    · exact (quiet_report ..).queues h
    · exact h

theorem QueuesBounded.slotAdmitted {s : State} (h : QueuesBounded s) : QueuesBounded (slotAdmitted s) := by
  have hbase : QueuesBounded (slotBase s) := QueuesBounded.evaluateBus (s := { s with slotTime := 0, phase := .running }) h
  rw [slotAdmitted_frame]
  exact hbase

theorem QueuesBounded.applyEdit {s : State} (h : QueuesBounded s) (e : Edit) : QueuesBounded (applyEdit s e) := by
  obtain ⟨poster, tag, content⟩ := e
  cases content with
  | rowAdd r c =>
    simp only [Machine.applyEdit]
    split
    · exact (quiet_report ..).queues h
    · split
      · exact (quiet_report ..).queues h
      · exact h
  | rowDrop r c =>
    simp only [Machine.applyEdit]
    split
    · exact h
    · exact (quiet_report ..).queues h
  | _ => exact h

theorem QueuesBounded.edited {s : State} (h : QueuesBounded s) : QueuesBounded (editedFrame s) :=
  List.foldlRecOn s.edits Machine.applyEdit (motive := QueuesBounded) h fun _ hu e _ => hu.applyEdit e

/-- Latching the grant may enter GRANT_EXPIRED in the energy queue. -/
theorem QueuesBounded.latchGrant {s : State} (h : QueuesBounded s) : QueuesBounded (latchGrant s) := by
  unfold Machine.latchGrant
  simp only
  split
  · exact h
  · split
    · exact h
    · split
      · exact h
      · exact (quiet_report ..).queues h

theorem QueuesBounded.frameOpening {s : State} (h : QueuesBounded s) : QueuesBounded (frameOpening s) := by
  obtain ⟨g, en, hg⟩ := latchGrant_frame (editedFrame s)
  have hlatched := h.edited.latchGrant
  rw [hg] at hlatched
  obtain ⟨h1, h2, -, -, h5⟩ := hlatched
  rw [frameOpening_frame, frameOpening_energy, hg]
  exact ⟨h1, h2, Nat.zero_le _, (fun _ h0 => nomatch h0), h5⟩

theorem stepKeeps_queuesBounded : StepKeeps QueuesBounded where
  queue := fun _ h => h
  kept := fun k h => k.queues h
  reset := queuesBounded_reset
  release := fun _ _ _ h => QueuesBounded.slotAdmitted h
  sample := fun bus readings _ _ h => h.sampleEvent bus readings
  ended := fun _ _ h => h.slotEnd
  opening := fun _ _ h => h.frameOpening
  start := fun _ _ h => QueuesBounded.slotAdmitted h

/-- Settles O60: each range is kept by every step. -/
theorem rangesAreKept : Obligations.RangesAreKept := by
  unfold Obligations.RangesAreKept
  exact ⟨fun _ _ h hs => stepKeeps_frameInRange.step h hs, fun _ _ h hs => stepKeeps_accountInRange.step h hs,
    fun _ _ h hs => stepKeeps_channelsInRange.step h hs, fun _ _ h hs => stepKeeps_energiesInRange.step h hs,
    fun _ _ h hs => stepKeeps_queuesBounded.step h hs⟩

end Sys2Proof.Machine
end

/-! ## A port's own state, and the soundness of feed and switches: what an operation keeps of both

`PortPrivate p s t`: from `s` to `t` port `p` kept what is its own. `Tame s t`: both ports did, and the feed and the admitted
list stay. `Calm s t`: beside that every switch is as sound as it was. All are reflexive and transitive, so each operation is
proved once. What no port commands is calm; what a command of port `p` does is `Acts p`. -/

section
namespace Sys2Proof.Machine

/-! ### One port -/

/-- Nothing of a port is lost or replaced by an event that is not its own: records join its queue, causes are latched. -/
structure PortGrows (a b : PortState) : Prop where
  vote : b.vote = a.vote
  reply : b.reply = a.reply
  pointer : b.pointer = a.pointer
  latch : b.latch = a.latch
  mask : b.mask = a.mask
  watermark : b.watermark = a.watermark
  tagCounter : b.tagCounter = a.tagCounter
  queue : ∃ more, b.queue = a.queue ++ more
  loss : a.lossCause = true → b.lossCause = true
  frame : a.frameCause = true → b.frameCause = true
  voteLost : a.voteLostCause = true → b.voteLostCause = true

theorem PortGrows.refl (a : PortState) : PortGrows a a := ⟨rfl, rfl, rfl, rfl, rfl, rfl, rfl, ⟨[], by simp⟩, id, id, id⟩

theorem PortGrows.trans {a b c : PortState} (h : PortGrows a b) (k : PortGrows b c) : PortGrows a c where
  vote := k.vote.trans h.vote
  reply := k.reply.trans h.reply
  pointer := k.pointer.trans h.pointer
  latch := k.latch.trans h.latch
  mask := k.mask.trans h.mask
  watermark := k.watermark.trans h.watermark
  tagCounter := k.tagCounter.trans h.tagCounter
  queue := by
    obtain ⟨m1, h1⟩ := h.queue
    obtain ⟨m2, h2⟩ := k.queue
    exact ⟨m1 ++ m2, by rw [h2, h1, List.append_assoc]⟩
  loss := k.loss ∘ h.loss
  frame := k.frame ∘ h.frame
  voteLost := k.voteLost ∘ h.voteLost

theorem portGrows_enterRecord (cap : Nat) (r : Report) (ps : PortState) : PortGrows ps (enterRecord cap r ps) := by
  obtain ⟨q, lm, lc, he, hq, hl⟩ := enterRecord_frame cap r ps
  rw [he]
  refine ⟨rfl, rfl, rfl, rfl, rfl, rfl, rfl, ?_, hl, id, id⟩
  rcases hq with rfl | rfl
  · exact ⟨[], by simp⟩
  · exact ⟨_, rfl⟩

/-- What a port keeps of its own but for its pending edits: its state and its framing. -/
structure PortKept (p : Port) (s t : State) : Prop where
  port : PortGrows (portOf s p) (portOf t p)
  service : p = .service → t.transaction = s.transaction ∧ t.sdo = s.sdo
  energy : p = .energy →
    t.bus = s.bus ∧ t.assembly = s.assembly ∧ t.readPos = s.readPos ∧ t.sda = s.sda ∧ t.ackOut = s.ackOut

/-- The pending edits a port posted. -/
def editsOf (p : Port) (s : State) : List Edit := s.edits.filter fun e => e.poster = p

/-- What a port keeps of its own: its state, its framing and its pending edits. -/
structure PortPrivate (p : Port) (s t : State) : Prop extends PortKept p s t where
  edits : editsOf p t = editsOf p s

theorem PortKept.trans {p : Port} {s t u : State} (h : PortKept p s t) (k : PortKept p t u) : PortKept p s u where
  port := h.port.trans k.port
  service := fun hp => by
    obtain ⟨h1, h2⟩ := h.service hp
    obtain ⟨k1, k2⟩ := k.service hp
    exact ⟨k1.trans h1, k2.trans h2⟩
  energy := fun hp => by
    obtain ⟨h1, h2, h3, h4, h5⟩ := h.energy hp
    obtain ⟨k1, k2, k3, k4, k5⟩ := k.energy hp
    exact ⟨k1.trans h1, k2.trans h2, k3.trans h3, k4.trans h4, k5.trans h5⟩

theorem PortPrivate.trans {p : Port} {s t u : State} (h : PortPrivate p s t) (k : PortPrivate p t u) : PortPrivate p s u :=
  ⟨h.toPortKept.trans k.toPortKept, k.edits.trans h.edits⟩

/-- The registers of the two ports. -/
structure PortRegisters where
  service : PortState
  energy : PortState
  transaction : Option ServiceTransaction
  sdo : Option Word
  bus : BusState
  assembly : Assembly
  readPos : Nat
  sda : Byte
  ackOut : Bool
  edits : List Edit

/-- Those registers of a state. -/
def portRegisters (s : State) : PortRegisters :=
  { service := s.service, energy := s.energy, transaction := s.transaction, sdo := s.sdo, bus := s.bus,
    assembly := s.assembly, readPos := s.readPos, sda := s.sda, ackOut := s.ackOut, edits := s.edits }

theorem portPrivate_of_registers {s t : State} (h : portRegisters t = portRegisters s) (p : Port) : PortPrivate p s t := by
  obtain ⟨h1, h2, h3, h4, h5, h6, h7, h8, h9, h10⟩ := PortRegisters.mk.inj h
  refine ⟨⟨?_, fun _ => ⟨h3, h4⟩, fun _ => ⟨h5, h6, h7, h8, h9⟩⟩, by rw [editsOf, h10]; rfl⟩
  rw [portOf_congr h1 h2]
  exact .refl _

theorem portPrivate_mapChans (f : Chan → Channel → Channel) (s : State) (p : Port) : PortPrivate p s (mapChans f s) :=
  portPrivate_of_registers (by simp only [portRegisters, mapChans]) p

theorem portPrivate_feedWrite (on : Bool) (s : State) (p : Port) : PortPrivate p s { s with feedOn := on } :=
  portPrivate_of_registers (s := s) (t := { s with feedOn := on }) rfl p

/-- A port that grows, whichever of the two it is. -/
theorem portPrivate_modPort {q : Port} {f : PortState → PortState} {s : State} (h : PortGrows (portOf s q) (f (portOf s q)))
    (p : Port) : PortPrivate p s (modPort q f s) := by
  refine ⟨⟨?_, fun _ => ⟨by simp, by simp⟩, fun _ => by simp⟩, by simp [editsOf]⟩
  cases p with
  | service => cases q with
    | service => exact h
    | energy => exact .refl _
  | energy => cases q with
    | service => exact .refl _
    | energy => exact h

/-- A change of one port leaves the other what is its own. -/
theorem portPrivate_modPort_other (q : Port) (f : PortState → PortState) (s : State) :
    PortPrivate (otherPort q) s (modPort q f s) := by
  refine ⟨⟨?_, fun _ => ⟨by simp, by simp⟩, fun _ => by simp⟩, by simp [editsOf]⟩
  rw [portOf_modPort_other]
  exact .refl _

/-! ### Both ports -/

/-- Both ports keep what is their own, and the feed and the admitted list stay. -/
structure Tame (s t : State) : Prop where
  ports : ∀ p, PortPrivate p s t
  feedOn : t.feedOn = s.feedOn
  admitted : t.admitted = s.admitted

theorem Tame.trans {s t u : State} (h : Tame s t) (k : Tame t u) : Tame s u :=
  ⟨fun p => (h.ports p).trans (k.ports p), k.feedOn.trans h.feedOn, k.admitted.trans h.admitted⟩

theorem tame_of_registers {s t : State} (h : portRegisters t = portRegisters s) (hf : t.feedOn = s.feedOn)
    (ha : t.admitted = s.admitted) : Tame s t := ⟨portPrivate_of_registers h, hf, ha⟩

theorem Tame.refl (s : State) : Tame s s := tame_of_registers rfl rfl rfl

theorem tame_modChan (c : Chan) (f : Channel → Channel) (s : State) : Tame s (modChan c f s) := tame_of_registers rfl rfl rfl

theorem tame_report (p : Port) (c : Option Chan) (b : ReportBody) (s : State) : Tame s (report p c b s) :=
  ⟨portPrivate_modPort (portGrows_enterRecord ..), report_feedOn .., report_admitted ..⟩

theorem tame_reportChan (c : Chan) (b : ReportBody) (s : State) : Tame s (reportChan c b s) := tame_report ..

/-- Writes of the probe engine. -/
theorem tame_probes (q : List ProbeRequest) (pr : Option Probe) (w : Bool) (s : State) :
    Tame s { s with probeQueue := q, probe := pr, waiting := w } := tame_of_registers rfl rfl rfl

/-- Writes of the account. -/
theorem tame_account (low : Bool) (g : Grant) (rp : Nat) (ta : Tallies) (s : State) :
    Tame s { s with busLow := low, grant := g, reserve := rp, tallies := ta } := tame_of_registers rfl rfl rfl

/-- Writes of the timebase and the straps. -/
theorem tame_timebase (r : Bool) (fr index rotor time : Nat) (ph : SlotPhase) (a b : Bool) (s : State) :
    Tame s { s with inReset := r, frame := fr, slotIndex := index, rotor := rotor, slotTime := time, phase := ph,
                    strap1 := a, strap0 := b } := tame_of_registers rfl rfl rfl

/-- Writes of the roster and the settings that edits carry. -/
theorem tame_settings (ro : Vector Row 32) (la : Layout) (gl : Globals) (st df : Bool) (fl al : Nat) (s : State) :
    Tame s { s with roster := ro, layout := la, globals := gl, holdStandard := st, holdDeferrable := df, floor := fl,
                    alarmLevel := al } := tame_of_registers rfl rfl rfl

/-! ### One switch -/

/-- A switch of a channel that may be on where `allowed` (R66): it is OPEN just without a switch-on, and else powered. -/
def SwitchSound (allowed : Bool) (ch : Channel) : Prop :=
  (ch.sw.switchOn = none ↔ ch.sw.state = .opened) ∧ (ch.sw.state ≠ .opened → allowed = true ∧ powered ch.life = true)

theorem switchesSound_iff (s : State) : SwitchesSound s ↔ ∀ c, SwitchSound (s.feedOn && isAdmitted s c) (chanAt s c) := by
  simp only [SwitchesSound, SwitchSound, Bool.and_eq_true, and_assoc]

/-- A channel's switch is as sound as it was, whether it may be on or not. -/
def SwitchKept (x y : Channel) : Prop := ∀ allowed, SwitchSound allowed x → SwitchSound allowed y

theorem SwitchKept.refl (x : Channel) : SwitchKept x x := fun _ => id

theorem SwitchKept.trans {x y z : Channel} (h : SwitchKept x y) (k : SwitchKept y z) : SwitchKept x z := fun a hx => k a (h a hx)

/-- A switch that stays open or stays closed, at a channel that does not leave the powered states. -/
theorem SwitchKept.of_stays {x y : Channel} (hstate : y.sw.state = .opened ↔ x.sw.state = .opened)
    (hon : y.sw.switchOn = none ↔ x.sw.switchOn = none) (hlife : powered x.life = true → powered y.life = true) :
    SwitchKept x y := fun _ h =>
  ⟨hon.trans (h.1.trans hstate.symm), fun hy => (h.2 fun hx => hy (hstate.2 hx)).imp_right hlife⟩

/-- A change that does not touch the switch, at a channel that does not leave the powered states. -/
theorem SwitchKept.of_same {x y : Channel} (hsw : y.sw = x.sw) (hlife : powered x.life = true → powered y.life = true) :
    SwitchKept x y := .of_stays (by rw [hsw]) (by rw [hsw]) hlife

theorem SwitchSound.of_open {allowed : Bool} {ch : Channel} (hstate : ch.sw.state = .opened) (hon : ch.sw.switchOn = none) :
    SwitchSound allowed ch := ⟨⟨fun _ => hstate, fun _ => hon⟩, fun h => absurd hstate h⟩

/-- Opening a sound switch for good leaves it open. -/
theorem openSwitch_open {allowed : Bool} {ch : Channel} (h : SwitchSound allowed ch) (g : Globals) (now : Nat) :
    (openSwitch g now ch.sw).state = .opened ∧ (openSwitch g now ch.sw).switchOn = none := by
  cases ho : ch.sw.switchOn with
  | none => rw [openSwitch_of_none ho]; exact ⟨h.1.1 ho, ho⟩
  | some o => simp only [openSwitch, ho]; exact ⟨trivial, trivial⟩

/-- A channel whose switch is the one of `x` opened for good. -/
theorem SwitchKept.of_opened {x y : Channel} {g : Globals} {now : Nat} (hsw : y.sw = openSwitch g now x.sw) :
    SwitchKept x y := fun a h => by
  obtain ⟨hstate, hon⟩ := openSwitch_open h g now
  exact .of_open (by rw [hsw, hstate]) (by rw [hsw, hon])

/-- A departure leaves a sound switch open: a powered channel's is opened, an unpowered one's was (R94). -/
theorem SwitchKept.of_departed {x y : Channel} {g : Globals} {now : Nat} (hsw : y.sw = (departed g now x).sw) :
    SwitchKept x y := fun a h => by
  unfold departed at hsw
  split at hsw
  · exact SwitchKept.of_opened (g := g) (now := now) hsw a h
  · rename_i hp
    have hopen : x.sw.state = .opened := by
      by_contra hne
      exact hp (h.2 hne).2
    exact .of_open (by rw [hsw, hopen]) (by rw [hsw, h.1.2 hopen])

theorem completeSwitch_stays (g : Globals) (sw : FeedSwitch) :
    (completeSwitch g sw).state = sw.state ∧ ((completeSwitch g sw).switchOn = none ↔ sw.switchOn = none) := by
  unfold completeSwitch
  cases ho : sw.switchOn with
  | none => simp [ho]
  | some o => simp only; split <;> simp [ho]

theorem configureSwitch_stays (cfg : ChanConfig) (t : Nat) (sw : FeedSwitch) :
    (configureSwitch cfg t sw).state = sw.state ∧ ((configureSwitch cfg t sw).switchOn = none ↔ sw.switchOn = none) := by
  refine ⟨?_, Option.map_eq_none_iff⟩
  simp only [configureSwitch]
  split <;> rfl

/-- A chop period start recloses a switch in chop-off time, and leaves another's state (R74). -/
theorem startChop_stays (g : Globals) (cfg : ChanConfig) (now : Nat) (o : SwitchOn) (sw : FeedSwitch) :
    ((startChop g cfg now o sw).state = .opened ↔ sw.state = .opened) ∧ (startChop g cfg now o sw).switchOn ≠ none := by
  unfold startChop
  simp only
  split
  · rename_i h
    simp [h]
  · simp

/-- What a sample event does not do to a switch (R44, R70). -/
theorem sampleChannel_stays (t v : Nat) (r : Reading) (ch : Channel) :
    (sampleChannel t v r ch).sw.state = ch.sw.state ∧
      ((sampleChannel t v r ch).sw.switchOn = none ↔ ch.sw.switchOn = none) ∧
      (sampleChannel t v r ch).life = ch.life := by
  obtain ⟨m, so, n, due, h⟩ := sampleChannel_frame t v r ch
  refine ⟨by rw [h], ?_, by rw [h]⟩
  cases hs : ch.meter.sampling
  · rw [sampleChannel_of_idle hs]
    exact Iff.rfl
  · rw [(sampleChannel_metered hs).2, Option.map_eq_none_iff]

theorem switchKept_countFrame (ch : Channel) : SwitchKept ch (countFrame ch) := by
  unfold countFrame
  split
  · split
    · simp only
      split
      · exact .of_stays .rfl .rfl fun _ => rfl
      · exact .of_same rfl id
    · exact .refl ch
  · exact .refl ch

/-! ### Calm operations -/

/-- Both ports keep what is their own, the feed and the admitted list stay, and every switch is as sound as it was. -/
structure Calm (s t : State) : Prop extends Tame s t where
  switches : ∀ c, SwitchKept (chanAt s c) (chanAt t c)

theorem Calm.refl (s : State) : Calm s s := ⟨.refl s, fun _ => .refl _⟩

theorem Calm.trans {s t u : State} (h : Calm s t) (k : Calm t u) : Calm s u :=
  ⟨h.toTame.trans k.toTame, fun c => (h.switches c).trans (k.switches c)⟩

theorem Calm.ite {s t u : State} {q : Prop} [Decidable q] (ht : Calm s t) (hu : Calm s u) : Calm s (if q then t else u) := by
  split <;> assumption

/-- A tame step that writes no channel. -/
theorem Tame.calm {s t : State} (h : Tame s t) (hc : ∀ c, chanAt t c = chanAt s c) : Calm s t :=
  ⟨h, fun c => (hc c).symm ▸ .refl _⟩

/-- A tame step of one channel. -/
theorem Tame.calm_one {s t : State} (h : Tame s t) (c : Chan) (hd : ∀ d, d ≠ c → chanAt t d = chanAt s d)
    (hc : SwitchKept (chanAt s c) (chanAt t c)) : Calm s t := by
  refine ⟨h, fun d => ?_⟩
  by_cases hdc : d = c
  · exact hdc ▸ hc
  · exact (hd d hdc).symm ▸ .refl _

theorem calm_modChan {c : Chan} {f : Channel → Channel} {s : State} (h : SwitchKept (chanAt s c) (f (chanAt s c))) :
    Calm s (modChan c f s) :=
  (tame_modChan c f s).calm_one c (fun _ hd => chanAt_modChan_other hd f s) (by rwa [chanAt_modChan_self])

/-- A change of a channel that leaves its switch and its state. -/
theorem calm_modChan_record {c : Chan} {f : Channel → Channel} (s : State) (hsw : (f (chanAt s c)).sw = (chanAt s c).sw)
    (hlife : (f (chanAt s c)).life = (chanAt s c).life) : Calm s (modChan c f s) :=
  calm_modChan (.of_same hsw (by rw [hlife]; exact id))

theorem calm_mapChans {f : Chan → Channel → Channel} {s : State} (h : ∀ c, SwitchKept (chanAt s c) (f c (chanAt s c))) :
    Calm s (mapChans f s) :=
  ⟨⟨portPrivate_mapChans f s, mapChans_feedOn .., mapChans_admitted ..⟩, fun c => by rw [chanAt_mapChans]; exact h c⟩

theorem calm_report (p : Port) (c : Option Chan) (b : ReportBody) (s : State) : Calm s (report p c b s) :=
  (tame_report p c b s).calm (chanAt_report p c b s)

theorem calm_reportChan (c : Chan) (b : ReportBody) (s : State) : Calm s (reportChan c b s) := calm_report ..

theorem calm_probes (q : List ProbeRequest) (pr : Option Probe) (w : Bool) (s : State) :
    Calm s { s with probeQueue := q, probe := pr, waiting := w } := (tame_probes q pr w s).calm fun _ => rfl

end Sys2Proof.Machine
end

/-! ## What no port commands is calm: looks, entries, exchanges, switches, probes, the account and the edits -/

section
namespace Sys2Proof.Machine

/-! ### Looks and requests -/

theorem tame_reportProbe (r : ProbeRequest) (o : ProbeOutcome) (v : Option Nat) (s : State) : Tame s (reportProbe r o v s) :=
  tame_reportChan ..

theorem calm_reportProbe (r : ProbeRequest) (o : ProbeOutcome) (v : Option Nat) (s : State) : Calm s (reportProbe r o v s) :=
  calm_reportChan ..

theorem tame_examine (q kept : List ProbeRequest) (s : State) : Tame s (examine kept q s) := by
  induction q generalizing kept s with
  | nil => exact tame_probes _ s.probe _ s
  | cons r rest ih =>
    unfold examine
    split
    · exact (tame_reportProbe ..).trans (ih _ _)
    · split
      · exact ih _ _
      · exact tame_probes _ _ _ s

theorem calm_look (s : State) : Calm s (look s) := by
  refine Tame.calm ?_ (chanAt_look s)
  unfold look
  split
  · exact .refl s
  · split
    · exact tame_probes s.probeQueue s.probe _ s
    · exact tame_examine ..

theorem calm_appendProbe (r : ProbeRequest) (s : State) : Calm s (appendProbe r s) :=
  (calm_probes _ s.probe s.waiting s).trans (calm_look _)

theorem calm_requestLine (c : Chan) (s : State) : Calm s (requestLine c s) := by
  unfold requestLine
  simp only
  split
  · exact .refl s
  · split
    · exact calm_appendProbe ..
    · exact calm_reportProbe ..

theorem calm_cancelProbe (c : Chan) (s : State) : Calm s (cancelProbe c s) := by
  unfold cancelProbe
  split
  · split
    · exact ((calm_probes s.probeQueue _ s.waiting s).trans (calm_reportProbe ..)).trans (calm_look _)
    · exact .refl s
  · exact .refl s

/-! ### Entries to the unpowered states -/

theorem tame_reportOwn (c : Chan) (own : Option ReportBody) (s : State) : Tame s (reportOwn c own s) := by
  cases own with
  | none => exact .refl s
  | some b => exact tame_reportChan c b s

theorem tame_endTest (c : Chan) (o : TestOutcome) (s : State) : Tame s (endTest c o s) := by
  unfold endTest
  split
  · exact (tame_modChan ..).trans (tame_reportChan ..)
  · exact .refl s

theorem tame_dropMailbox (c : Chan) (s : State) : Tame s (dropMailbox c s) := by
  unfold dropMailbox
  split
  · exact (tame_modChan ..).trans (tame_reportChan ..)
  · exact .refl s

theorem tame_settleUnpowered (c : Chan) (own : Option ReportBody) (o : TestOutcome) (s : State) :
    Tame s (settleUnpowered c own o s) := by
  unfold settleUnpowered markStale
  exact (((tame_reportOwn c own s).trans (tame_endTest ..)).trans (tame_dropMailbox ..)).trans (tame_modChan ..)

theorem tame_depart (c : Chan) (s : State) : Tame s (depart c s) := by
  rw [depart_eq]
  exact tame_modChan ..

/-- The steps R94 and R95 of an entry to an unpowered state, whose own change of the channel is `f`. -/
theorem tame_entry (c : Chan) (f : Channel → Channel) (own : Option ReportBody) (o : TestOutcome) (s : State) :
    Tame s (settleUnpowered c own o (modChan c f (depart c s))) :=
  ((tame_depart c s).trans (tame_modChan ..)).trans (tame_settleUnpowered ..)

theorem calm_enterDark (c : Chan) (cause : StateCause) (own : Option ReportBody) (o : TestOutcome) (s : State) :
    Calm s (enterDark c cause own o s) := by
  have htame : Tame s (enterDark c cause own o s) := by
    unfold enterDark
    simp only
    split
    · exact (tame_entry ..).trans (calm_requestLine ..).toTame
    · exact tame_entry ..
  refine htame.calm_one c (fun d hd => by rw [chanAt_enterDark, if_neg hd]) ?_
  rw [chanAt_enterDark, if_pos rfl]
  exact .of_departed rfl

theorem calm_enterFaulted (c : Chan) (cause : StateCause) (partner : Option Chan) (s : State) :
    Calm s (enterFaulted c cause partner s) := by
  refine (tame_entry c _ _ _ s).calm_one c (fun d hd => ?_) ?_
  · exact (chanAt_enterFaulted c cause partner s d).trans (if_neg hd)
  · exact (chanAt_enterFaulted c cause partner s c).trans (if_pos rfl) ▸ .of_departed rfl

theorem calm_enterRetired (c : Chan) (s : State) : Calm s (enterRetired c s) := by
  refine (tame_entry c _ _ _ s).calm_one c (fun d hd => ?_) ?_
  · exact (chanAt_enterRetired c s d).trans (if_neg hd)
  · exact (chanAt_enterRetired c s c).trans (if_pos rfl) ▸ .of_departed rfl

theorem calm_endTest (c : Chan) (o : TestOutcome) (s : State) : Calm s (endTest c o s) := by
  refine (tame_endTest c o s).calm_one c (fun d hd => by rw [chanAt_endTest, if_neg hd]) ?_
  rw [chanAt_endTest, if_pos rfl]
  exact .of_same rfl id

/-! ### Outcomes of exchanges -/

theorem calm_countAttempt (c : Chan) (s : State) : Calm s (countAttempt c s) := by
  have hcount : Calm s (modChan c (fun ch => { ch with attempts := ch.attempts + 1 }) s) := calm_modChan_record s rfl rfl
  unfold countAttempt
  simp only
  split
  · exact hcount.trans (calm_enterDark ..)
  · exact hcount

theorem calm_countMiss (c : Chan) (s : State) : Calm s (countMiss c s) := by
  have hcount : Calm s (modChan c (fun ch => { ch with misses := ch.misses + 1 }) s) := calm_modChan_record s rfl rfl
  unfold countMiss goSilent
  simp only
  split
  · exact hcount.trans (calm_enterDark ..)
  · exact hcount

theorem calm_missAction (c : Chan) (s : State) : Calm s (missAction c s) := by
  unfold missAction
  split
  · exact calm_countAttempt c s
  · exact calm_countMiss c s
  · exact calm_countMiss c s
  all_goals exact .refl s

theorem calm_feedChannel (c : Chan) (s : State) : Calm s (modChan c feedChannel s) :=
  calm_modChan (.of_stays .rfl .rfl fun _ => rfl)

theorem calm_resultAnswer (c : Chan) (a : Answer) (s : State) : Calm s (resultAnswer c a s) := by
  unfold resultAnswer
  refine Calm.trans ?_ (calm_feedChannel c _)
  split
  · exact (calm_modChan_record s rfl rfl).trans (calm_reportChan ..)
  · exact .refl s

theorem calm_settleMailbox (c : Chan) (o : MailOutcome) (m : Mailbox) (n : Nat) (f : Option StatusFields) (s : State) :
    Calm s (settleMailbox c o m n f s) := (calm_modChan_record s rfl rfl).trans (calm_reportChan ..)

theorem calm_refuseTest (c : Chan) (a : Answer) (s : State) : Calm s (refuseTest c a s) := by
  unfold refuseTest
  split
  · exact (calm_modChan_record s rfl rfl).trans (calm_reportChan ..)
  · exact calm_modChan_record s rfl rfl

/-- The ACK to BEGIN_TEST departs from FED before TESTING takes the channel (R136). -/
theorem calm_beginTest (c : Chan) (band : Nat) (s : State) : Calm s (modChan c (testChannel band) (depart c s)) := by
  refine ((tame_depart c s).trans (tame_modChan ..)).calm_one c (fun d hd => ?_) ?_
  · rw [chanAt_modChan_other hd, depart_eq, chanAt_modChan_other hd]
  · rw [chanAt_modChan_self, depart_eq, chanAt_modChan_self]
    exact .of_departed rfl

theorem calm_fedAnswer (c : Chan) (e : Exchange) (a : Answer) (s : State) : Calm s (fedAnswer c e a s) := by
  have hmisses : Calm s (modChan c (fun ch => { ch with misses := 0 }) s) := calm_modChan_record s rfl rfl
  unfold fedAnswer
  refine hmisses.trans ?_
  cases e.cmd with
  | keep => exact .refl _
  | wake => exact .refl _
  | resultQuery => exact .refl _
  | query => exact calm_settleMailbox ..
  | aux n => exact calm_settleMailbox ..
  | doze =>
    simp only
    split
    · exact (calm_modChan_record _ rfl rfl).trans (calm_enterDark ..)
    · exact calm_settleMailbox ..
  | beginTest =>
    simp only
    split
    · exact calm_beginTest ..
    · exact calm_refuseTest ..

theorem calm_validAction (c : Chan) (e : Exchange) (a : Answer) (s : State) : Calm s (validAction c e a s) := by
  unfold validAction
  split
  · exact (calm_feedChannel c s).trans (calm_reportChan ..)
  · exact calm_fedAnswer ..
  · exact calm_resultAnswer ..
  all_goals exact .refl s

theorem calm_refreshStatus (c : Chan) (a : Answer) (s : State) : Calm s (refreshStatus c a s) := calm_modChan_record s rfl rfl

theorem calm_reportChange (c : Chan) (a : Answer) (frame : Nat) (old : Option StatusRecord) (s : State) :
    Calm s (reportChange c a frame old s) := by
  unfold reportChange
  split
  · exact calm_reportChan ..
  · exact .refl s

theorem calm_exchangeOutcome (c : Chan) (e : Exchange) (o : ExchangeOutcome) (answer : Option Answer) (s : State) :
    Calm s (exchangeOutcome c e o answer s) := by
  unfold exchangeOutcome
  split
  · rename_i a
    have hrefresh : Calm s (modChan c (fun ch => { ch with seq := !ch.seq }) (refreshStatus c a s)) :=
      (calm_refreshStatus c a s).trans (calm_modChan_record _ rfl rfl)
    exact (hrefresh.trans (calm_validAction ..)).trans (calm_reportChange ..)
  · exact ((calm_refreshStatus ..).trans (calm_missAction ..)).trans (calm_reportChange ..)
  · exact calm_missAction ..

/-! ### The steps of the line exchange units -/

theorem calm_exchangeStart (c : Chan) (s : State) : Calm s (exchangeStart c s) := by
  unfold exchangeStart
  simp only
  split
  · split
    · exact calm_modChan_record s rfl rfl
    · exact .refl s
  · exact .refl s

theorem calm_downlinkEnd (c : Chan) (baseline : Nat) (s : State) : Calm s (downlinkEnd c baseline s) := by
  unfold downlinkEnd
  split
  · split
    · exact calm_modChan_record s rfl rfl
    · exact .refl s
  · exact .refl s

theorem calm_answerStart (c : Chan) (instant : Fin 1001) (rise : Rise) (s : State) : Calm s (answerStart c instant rise s) := by
  unfold answerStart
  simp only
  split
  · split
    · exact calm_modChan_record s rfl rfl
    · exact .refl s
  · exact .refl s

theorem calm_windowExpiry (c : Chan) (s : State) : Calm s (windowExpiry c s) := by
  unfold windowExpiry
  split
  · split
    · exact (calm_modChan_record s rfl rfl).trans (calm_exchangeOutcome ..)
    · exact .refl s
  · exact .refl s

theorem calm_uplinkEnd (c : Chan) (average : Nat) (s : State) : Calm s (uplinkEnd c average s) := by
  unfold uplinkEnd
  split
  · split
    · exact (calm_modChan_record s rfl rfl).trans (calm_exchangeOutcome ..)
    · exact .refl s
  · exact .refl s

/-! ### The steps of the feed switches -/

theorem calm_openLoadLost (c : Chan) (s : State) : Calm s (openLoadLost c s) := by
  unfold openLoadLost goOpenLoad
  simp only
  split
  · exact calm_enterDark ..
  · exact .refl s

theorem calm_switchOnComplete (c : Chan) (s : State) : Calm s (switchOnComplete c s) := by
  unfold switchOnComplete
  split
  · split
    · obtain ⟨hstate, hon⟩ := completeSwitch_stays s.globals (chanAt s c).sw
      exact calm_modChan (.of_stays (by simp only [hstate]) hon id)
    · exact .refl s
  · exact .refl s

theorem calm_rampEnd (c : Chan) (s : State) : Calm s (rampEnd c s) := by
  unfold rampEnd
  simp only
  split
  · split
    · rename_i hramp
      have hstate : (chanAt s c).sw.state = .ramping := by simp only [Bool.and_eq_true, decide_eq_true_eq] at hramp; exact hramp.1
      exact calm_modChan (.of_stays (by simp [hstate]) .rfl id)
    · exact .refl s
  · exact .refl s

theorem calm_chopPeriodStart (c : Chan) (s : State) : Calm s (chopPeriodStart c s) := by
  unfold chopPeriodStart
  simp only
  split
  · rename_i o ho
    split
    · obtain ⟨hstate, hon⟩ := startChop_stays s.globals (chanAt s c).cfg s.ms o (chanAt s c).sw
      exact calm_modChan (.of_stays hstate (by simp [hon, ho]) id)
    · exact .refl s
  · exact .refl s

theorem calm_faultFromSwitch (c : Chan) (cause : StateCause) (s : State) : Calm s (faultFromSwitch c cause s) := by
  unfold faultFromSwitch
  split
  · exact calm_enterFaulted ..
  · exact .refl s

/-- A trip takes a closed switch, which stays closed in chop-off time (R75). -/
theorem calm_tripAssert (c : Chan) (s : State) : Calm s (tripAssert c s) := by
  unfold tripAssert
  simp only
  split
  · rename_i o d ho _
    split
    · rename_i harmed
      have hclosed : (chanAt s c).sw.state ≠ .opened := fun h0 => by simp [armed, h0] at harmed
      have htrip : Calm s (modSwitch c (tripSwitch d o) s) :=
        calm_modChan (.of_stays (by simp [tripSwitch, hclosed]) (by simp [tripSwitch, ho]) id)
      split
      · exact htrip.trans (calm_faultFromSwitch ..)
      · exact htrip
    · exact .refl s
  · exact .refl s

theorem calm_overcurrentAssert (c : Chan) (s : State) : Calm s (overcurrentAssert c s) := by
  unfold overcurrentAssert
  simp only
  split
  · split
    · exact calm_faultFromSwitch ..
    · exact .refl s
  · exact .refl s

theorem switchKept_senseCurrent (t current : Nat) (ch : Channel) : SwitchKept ch (senseCurrent t current ch) := by
  unfold senseCurrent
  split <;> exact .of_stays .rfl .rfl id

theorem calm_levelCrossing (c : Chan) (current : Nat) (instant : Fin 1001) (s : State) :
    Calm s (levelCrossing c current instant s) := by
  unfold levelCrossing
  simp only
  split
  · exact calm_modChan (switchKept_senseCurrent _ _ _)
  · exact .refl s

/-! ### The steps of the probe engine -/

theorem calm_signature (c : Chan) (s : State) : Calm s (actLine c .signature s) := by
  unfold actLine
  refine calm_modChan ?_
  simp only
  split
  · exact .of_same rfl fun _ => rfl
  · exact .of_same rfl id

theorem calm_setLine (c : Chan) (r : LineResult) (s : State) : Calm s (modChan c (fun ch => { ch with line := r }) s) :=
  calm_modChan_record s rfl rfl

theorem calm_actLine (c : Chan) (o : ProbeOutcome) (s : State) : Calm s (actLine c o s) := by
  cases o with
  | short => exact (calm_setLine ..).trans (calm_enterFaulted ..)
  | foreign => exact (calm_setLine ..).trans (calm_enterFaulted ..)
  | signature => exact calm_signature c s
  | openLine => exact calm_setLine ..
  | clear => exact .refl s
  | crossed => exact .refl s
  | cancelled => exact .refl s
  | notQueued => exact .refl s

theorem calm_setPair (c : Chan) (r : PairResult) (s : State) : Calm s (modChan c (fun ch => { ch with pair := r }) s) :=
  calm_modChan_record s rfl rfl

theorem calm_crossChannel (c partner : Chan) (s : State) : Calm s (crossChannel c partner s) :=
  (calm_setPair ..).trans (calm_enterFaulted ..)

theorem calm_actPair (c partner : Chan) (crossed : Bool) (s : State) : Calm s (actPair c partner crossed s) := by
  unfold actPair
  simp only
  split
  · split
    · exact (calm_crossChannel ..).trans (calm_crossChannel ..)
    · exact calm_crossChannel ..
  · exact calm_setPair ..

theorem calm_endProbe (r : ProbeRequest) (o : ProbeOutcome) (v : Option Nat) (s : State) :
    Calm s (reportProbe r o v { s with probe := none }) := (calm_probes s.probeQueue _ s.waiting s).trans (calm_reportProbe ..)

theorem calm_probeEndLine (reading : Nat) (s : State) : Calm s (probeEndLine reading s) := by
  unfold probeEndLine
  split
  · split
    · refine Calm.trans ?_ (calm_look _)
      exact .ite ((calm_endProbe ..).trans (calm_actLine ..)) (calm_endProbe ..)
    · exact .refl s
  · exact .refl s

theorem calm_probeEndPair (reading : Nat) (s : State) : Calm s (probeEndPair reading s) := by
  unfold probeEndPair
  split
  · split
    · refine Calm.trans ?_ (calm_look _)
      exact .ite ((calm_endProbe ..).trans (calm_actPair ..)) (calm_endProbe ..)
    · exact .refl s
  · exact .refl s

/-! ### The steps of the timebase but for the frame opening and the slot start -/

theorem calm_sampleEvent (bus : Nat) (readings : Vector Reading 24) (s : State) : Calm s (sampleEvent bus readings s) := by
  have hswitch : ∀ c, SwitchKept (chanAt s c) (chanAt (sampleEvent bus readings s) c) := fun c => by
    rw [chanAt_sampleEvent]
    obtain ⟨hstate, hon, hlife⟩ := sampleChannel_stays (s.ms + 1) (min bus 6000) readings[c] (chanAt s c)
    exact .of_stays (by rw [hstate]) hon (by rw [hlife]; exact id)
  refine ⟨?_, hswitch⟩
  rw [sampleEvent_eq]
  exact tame_of_registers rfl rfl rfl

theorem tame_charge (c : Chan) (priority : Bool) (e : Nat) (s : State) : Tame s (charge c priority e s) := by
  unfold charge
  simp only
  split
  · exact (tame_account s.busLow _ _ _ s).trans (tame_report ..)
  · exact tame_account s.busLow _ _ _ s

theorem calm_closeEntry (s : State) (e : Entry) : Calm s (closeEntry s e) :=
  ((tame_charge e.chan e.priority _ s).calm (chanAt_charge _ _ _ s)).trans (calm_modChan_record _ rfl rfl)

theorem calm_foldl {α : Type} {f : State → α → State} (h : ∀ s a, Calm s (f s a)) (l : List α) (s : State) :
    Calm s (l.foldl f s) := by
  induction l generalizing s with
  | nil => exact .refl s
  | cons a l ih => exact (h s a).trans (ih _)

theorem tame_summarise (s : State) : Tame s (summarise s) :=
  (tame_report ..).trans (tame_account _ _ _ _ _)

theorem calm_slotEnd (s : State) : Calm s (slotEnd s) := by
  have hstop : ∀ u, Calm u (mapChans (fun _ c => { c with meter := { c.meter with sampling := false } }) u) := fun _ =>
    calm_mapChans fun _ => .of_same rfl id
  have hclosed := (calm_foldl calm_closeEntry s.admitted s).trans (hstop _)
  have htame : Tame s (slotEnd s) := by
    unfold slotEnd
    extract_lets u v w
    have hw : Tame v w := by
      simp only [w]
      split
      · exact tame_summarise v
      · exact .refl v
    exact (hclosed.toTame.trans hw).trans (tame_timebase _ _ _ _ _ _ _ _ w)
  refine ⟨htame, fun c => ?_⟩
  rw [chanAt_slotEnd]
  exact ((calm_foldl calm_closeEntry s.admitted s).switches c).trans (.of_same rfl id)

theorem switchKept_configureChannel (cfg : ChanConfig) (t : Nat) (ch : Channel) : SwitchKept ch (configureChannel cfg t ch) := by
  obtain ⟨hstate, hon⟩ := configureSwitch_stays cfg t ch.sw
  exact .of_stays (by simp only [configureChannel, hstate]) hon id

theorem calm_rejectEdit (e : Edit) (r : RejectReason) (row : RowIndex) (c : Chan) (s : State) :
    Calm s (rejectEdit e r row c s) := calm_report ..

theorem calm_settings (ro : Vector Row 32) (la : Layout) (gl : Globals) (st df : Bool) (fl al : Nat) (s : State) :
    Calm s { s with roster := ro, layout := la, globals := gl, holdStandard := st, holdDeferrable := df, floor := fl,
                    alarmLevel := al } := (tame_settings ro la gl st df fl al s).calm fun _ => rfl

theorem calm_setRow (r : RowIndex) (row : Row) (s : State) : Calm s (setRow r row s) := calm_settings _ _ _ _ _ _ _ s

theorem calm_applyEdit (s : State) (e : Edit) : Calm s (applyEdit s e) := by
  unfold applyEdit
  split
  · exact calm_setRow ..
  · simp only
    split
    · exact calm_rejectEdit ..
    · split
      · exact calm_rejectEdit ..
      · exact calm_setRow ..
  · simp only
    split
    · exact calm_setRow ..
    · exact calm_rejectEdit ..
  · exact calm_modChan (switchKept_configureChannel _ _ _)
  all_goals exact calm_settings _ _ _ _ _ _ _ s

theorem tame_advanceFrame (s : State) : Tame s (advanceFrame s) := tame_timebase s.inReset _ _ _ _ s.phase s.strap1 s.strap0 s

theorem calm_editedFrame (s : State) : Calm s (editedFrame s) :=
  ((tame_advanceFrame s).calm fun _ => rfl).trans (calm_foldl calm_applyEdit s.edits (advanceFrame s))

theorem tame_latchGrant (s : State) : Tame s (latchGrant s) := by
  have hwrite : ∀ g, Tame s { s with grant := g } := fun g => tame_account s.busLow g s.reserve s.tallies s
  unfold latchGrant
  simp only
  split
  · exact hwrite _
  · split
    · exact hwrite _
    · split
      · exact hwrite _
      · exact (hwrite _).trans (tame_report ..)

theorem tame_evaluateBus (s : State) : Tame s (evaluateBus s) := by
  unfold evaluateBus
  extract_lets low u
  have hu : Tame s u := by
    simp only [u]
    split
    · exact tame_report ..
    · split
      · exact tame_report ..
      · exact .refl s
  exact hu.trans (tame_account low u.grant u.reserve _ u)

end Sys2Proof.Machine
end

/-! ## What a port's command does to the other port, and to the feed and the switches (R22 to R25, R66, R157, R170, R179) -/

section
namespace Sys2Proof.Machine

/-! ### Soundness of the feed and the switches -/

/-- The feed agrees with the votes, and the switches are sound, where they did and were. -/
structure SoundKept (s t : State) : Prop where
  feed : FeedAgrees s → FeedAgrees t
  switches : SwitchesSound s → SwitchesSound t

theorem SoundKept.trans {s t u : State} (h : SoundKept s t) (k : SoundKept t u) : SoundKept s u :=
  ⟨k.feed ∘ h.feed, k.switches ∘ h.switches⟩

theorem feedAgrees_iff (p : Port) (s : State) :
    FeedAgrees s ↔ s.feedOn = ((portOf s p).vote && (portOf s (otherPort p)).vote) := by
  cases p with
  | service => exact Iff.rfl
  | energy => rw [Bool.and_comm]; exact Iff.rfl

/-- The feed and the votes as they were. -/
theorem feedAgrees_of_votes {s t : State} (hf : t.feedOn = s.feedOn) (hv : ∀ p, (portOf t p).vote = (portOf s p).vote)
    (h : FeedAgrees s) : FeedAgrees t := by
  rw [feedAgrees_iff .service] at h ⊢
  rw [hf, hv, hv, h]

/-- Every switch as sound as it was, under the same feed and admitted list. -/
theorem switchesSound_of_kept {s t : State} (hf : t.feedOn = s.feedOn) (ha : t.admitted = s.admitted)
    (hsw : ∀ c, SwitchKept (chanAt s c) (chanAt t c)) (h : SwitchesSound s) : SwitchesSound t := by
  rw [switchesSound_iff] at h ⊢
  exact fun c => by rw [hf, isAdmitted_congr ha]; exact hsw c _ (h c)

theorem Calm.soundKept {s t : State} (h : Calm s t) : SoundKept s t :=
  ⟨feedAgrees_of_votes h.feedOn fun p => (h.ports p).port.vote, switchesSound_of_kept h.feedOn h.admitted h.switches⟩

/-! ### What a port's command is made of -/

/-- What a command or a framing step of port `p` does: the other port keeps what is its own, and the feed and the switches
stay sound. -/
structure Acts (p : Port) (s t : State) : Prop extends SoundKept s t where
  other : PortPrivate (otherPort p) s t

theorem Acts.trans {p : Port} {s t u : State} (h : Acts p s t) (k : Acts p t u) : Acts p s u :=
  ⟨h.toSoundKept.trans k.toSoundKept, h.other.trans k.other⟩

theorem Calm.acts {s t : State} (h : Calm s t) (p : Port) : Acts p s t := ⟨h.soundKept, h.ports _⟩

theorem Acts.refl (p : Port) (s : State) : Acts p s s := (Calm.refl s).acts p

theorem eq_or_eq_otherPort (p q : Port) : q = p ∨ q = otherPort p := by cases p <;> cases q <;> decide

/-- A step that leaves the other port what is its own and keeps the votes, the feed, the admitted list and the channels. -/
theorem PortPrivate.acts {p : Port} {s t : State} (h : PortPrivate (otherPort p) s t)
    (hv : (portOf t p).vote = (portOf s p).vote) (hf : t.feedOn = s.feedOn) (ha : t.admitted = s.admitted)
    (hc : ∀ c, chanAt t c = chanAt s c) : Acts p s t := by
  refine ⟨⟨feedAgrees_of_votes hf fun q => ?_, switchesSound_of_kept hf ha fun c => (hc c).symm ▸ .refl _⟩, h⟩
  rcases eq_or_eq_otherPort p q with rfl | rfl
  · exact hv
  · exact h.port.vote

theorem acts_modPort {p : Port} {f : PortState → PortState} {s : State} (hv : (f (portOf s p)).vote = (portOf s p).vote) :
    Acts p s (modPort p f s) :=
  (portPrivate_modPort_other p f s).acts (by rw [portOf_modPort_self, hv]) (modPort_feedOn ..) (modPort_admitted ..)
    (chanAt_modPort p f s)

/-- A write of the service port's framing. -/
theorem acts_serviceFraming (tr : Option ServiceTransaction) (sd : Option Word) (s : State) :
    Acts .service s { s with transaction := tr, sdo := sd } :=
  PortPrivate.acts ⟨⟨.refl _, nofun, fun _ => ⟨rfl, rfl, rfl, rfl, rfl⟩⟩, rfl⟩ rfl rfl rfl fun _ => rfl

/-- A write of the energy port's framing. -/
theorem acts_energyFraming (bus : BusState) (a : Assembly) (n : Nat) (sda : Byte) (ack : Bool) (s : State) :
    Acts .energy s { s with bus := bus, assembly := a, readPos := n, sda := sda, ackOut := ack } :=
  PortPrivate.acts ⟨⟨.refl _, fun _ => ⟨rfl, rfl⟩, nofun⟩, rfl⟩ rfl rfl rfl fun _ => rfl

/-- A pending reply is left or taken. -/
theorem acts_setReply (p : Port) (r : Option Reply) (s : State) :
    Acts p s (modPort p (fun ps => { ps with reply := r }) s) :=
  acts_modPort rfl

theorem acts_reply (p : Port) (k : Byte) (o : ReplyCode) (ws : List Word) (s : State) : Acts p s (reply p k o ws s) := by
  cases p with
  | service => exact acts_setReply ..
  | energy => exact (acts_setReply .energy _ s).trans (acts_energyFraming ..)

theorem acts_done (p : Port) (cmd : Cmd) (ws : List Word) (s : State) : Acts p s (done p cmd ws s) := acts_reply ..

theorem acts_refuse (p : Port) (cmd : Cmd) (o : ReplyCode) (s : State) : Acts p s (refuse p cmd o s) := acts_reply ..

/-- Edits that come and go, all posted by port `p`. -/
theorem acts_edits {p : Port} {es : List Edit} {s : State}
    (h : (es.filter fun e => e.poster = otherPort p) = editsOf (otherPort p) s) : Acts p s { s with edits := es } :=
  PortPrivate.acts ⟨⟨portOf_congr (s := s) rfl rfl _ ▸ .refl _, fun _ => ⟨rfl, rfl⟩, fun _ => ⟨rfl, rfl, rfl, rfl, rfl⟩⟩, h⟩
    (by cases p <;> rfl) rfl rfl fun _ => rfl

theorem acts_removeEdits (p : Port) (s : State) : Acts p s (removeEdits p s) := by
  refine acts_edits ?_
  rw [editsOf, List.filter_filter]
  refine List.filter_congr fun e _ => ?_
  cases e.poster <;> cases p <;> rfl

/-! ### Votes and port reset -/

theorem portPrivate_reportFeedState (changer : Port) (portReset : Bool) (s : State) (p : Port) :
    PortPrivate p s (reportFeedState changer portReset s) :=
  ((tame_report ..).ports p).trans ((tame_report ..).ports p)

theorem portPrivate_feedOn (changer : Port) (s : State) (p : Port) : PortPrivate p s (feedOn changer s) :=
  (portPrivate_feedWrite true s p).trans (portPrivate_reportFeedState ..)

/-- VOTE_LOST at the other port is latched beside what it has (R24). -/
theorem portPrivate_feedOff (changer : Port) (portReset : Bool) (s : State) (p : Port) :
    PortPrivate p s (feedOff changer portReset s) := by
  unfold feedOff
  refine (PortPrivate.trans ?_ (portPrivate_reportFeedState ..)).trans (portPrivate_modPort ?_ p)
  · exact (portPrivate_feedWrite false s p).trans (portPrivate_mapChans ..)
  · exact { PortGrows.refl _ with voteLost := fun _ => rfl }

@[simp] theorem feedOn_feedOn (changer : Port) (s : State) : (feedOn changer s).feedOn = true := by
  simp [feedOn, reportFeedState]

@[simp] theorem feedOn_admitted (changer : Port) (s : State) : (feedOn changer s).admitted = s.admitted := by
  simp [feedOn, reportFeedState]

@[simp] theorem chanAt_feedOn (changer : Port) (s : State) (c : Chan) : chanAt (feedOn changer s) c = chanAt s c := by
  simp only [feedOn, reportFeedState, chanAt_report]
  rfl

@[simp] theorem feedOff_feedOn (changer : Port) (portReset : Bool) (s : State) : (feedOff changer portReset s).feedOn = false := by
  simp [feedOff, reportFeedState]

@[simp] theorem chanAt_feedOff (changer : Port) (portReset : Bool) (s : State) (c : Chan) :
    chanAt (feedOff changer portReset s) c = feedOffChannel s.globals s.ms (chanAt s c) := by
  simp only [feedOff, reportFeedState, chanAt_modPort, chanAt_report, chanAt_mapChans]
  rfl

/-- With the feed OFF every sound switch is open (R24, R66). -/
theorem SwitchesSound.feedOff {s : State} (h : SwitchesSound s) (changer : Port) (portReset : Bool) :
    SwitchesSound (feedOff changer portReset s) := by
  rw [switchesSound_iff] at h ⊢
  intro c
  obtain ⟨hstate, hon⟩ := openSwitch_open (h c) s.globals s.ms
  rw [chanAt_feedOff]
  exact .of_open hstate hon

/-- With the feed ON more switches may be on (R66). -/
theorem SwitchesSound.feedOn {s : State} (h : SwitchesSound s) (changer : Port) : SwitchesSound (feedOn changer s) := by
  intro c
  rw [chanAt_feedOn, isAdmitted_congr (feedOn_admitted changer s)]
  exact ⟨(h c).1, fun hc => ⟨feedOn_feedOn .., ((h c).2 hc).2⟩⟩

/-- A port's vote is cleared and the other port keeps what is its own: the feed turns OFF if it was ON. -/
theorem acts_withoutVote {p : Port} {s u : State} (h : PortPrivate (otherPort p) s u) (hv : (portOf u p).vote = false)
    (hf : u.feedOn = s.feedOn) (hsw : SwitchesSound s → SwitchesSound u) (portReset : Bool) :
    Acts p s (if s.feedOn then feedOff p portReset u else u) := by
  cases hfeed : s.feedOn with
  | false =>
    refine ⟨⟨fun _ => (feedAgrees_iff p u).2 ?_, hsw⟩, h⟩
    rw [hf, hfeed, hv, Bool.false_and]
  | true =>
    refine ⟨⟨fun _ => (feedAgrees_iff p _).2 ?_, fun hs => (hsw hs).feedOff p portReset⟩, h.trans (portPrivate_feedOff ..)⟩
    rw [if_pos rfl, feedOff_feedOn, (portPrivate_feedOff p portReset u p).port.vote, hv, Bool.false_and]

theorem switchesSound_setVote {p : Port} {on : Bool} {s : State} (h : SwitchesSound s) : SwitchesSound (setVote p on s) :=
  switchesSound_of_kept (modPort_feedOn ..) (modPort_admitted ..) (fun _ => chanAt_modPort p _ s _ ▸ .refl _) h

@[simp] theorem vote_setVote_self (p : Port) (on : Bool) (s : State) : (portOf (setVote p on s) p).vote = on := by
  rw [setVote, portOf_modPort_self]

@[simp] theorem vote_setVote_other (p : Port) (on : Bool) (s : State) :
    (portOf (setVote p on s) (otherPort p)).vote = (portOf s (otherPort p)).vote := by rw [setVote, portOf_modPort_other]

/-- A vote set turns the feed ON where it is OFF and the other vote stands set (R23). -/
theorem acts_withVote (p : Port) (s : State) :
    Acts p s (if !s.feedOn && (portOf s (otherPort p)).vote then feedOn p (setVote p true s) else setVote p true s) := by
  have hset : PortPrivate (otherPort p) s (setVote p true s) := portPrivate_modPort_other ..
  split
  · rename_i hon
    have hvote : (portOf s (otherPort p)).vote = true := (Bool.and_eq_true_iff.1 hon).2
    have hkept : ∀ q, _ := fun q => (portPrivate_feedOn p (setVote p true s) q).port.vote
    refine ⟨⟨fun _ => (feedAgrees_iff p _).2 ?_, fun hs => (switchesSound_setVote hs).feedOn p⟩, hset.trans (portPrivate_feedOn ..)⟩
    rw [hkept, hkept, feedOn_feedOn, vote_setVote_self, vote_setVote_other, hvote, Bool.and_true]
  · rename_i hon
    refine ⟨⟨fun h => (feedAgrees_iff p _).2 ?_, switchesSound_setVote⟩, hset⟩
    rw [feedAgrees_iff p] at h
    rw [vote_setVote_self, vote_setVote_other, Bool.true_and, setVote, modPort_feedOn]
    cases hv : (portOf s (otherPort p)).vote
    · rw [h, hv, Bool.and_false]
    · simpa [hv] using hon

theorem acts_doVote (p : Port) (arg : Word) (s : State) : Acts p s (doVote p arg s) := by
  unfold doVote
  split
  · refine Acts.trans ?_ (acts_done ..)
    exact acts_withoutVote (portPrivate_modPort_other ..) (vote_setVote_self ..) (modPort_feedOn ..) switchesSound_setVote false
  · refine Acts.trans ?_ (acts_done ..)
    simp only [setVote, portOf_modPort_other]
    exact acts_withVote p s
  · exact acts_refuse ..

/-- The state a port reset leaves before the feed is looked at (R155, R170). -/
def portCleared (p : Port) (s : State) : State := removeEdits p (clearFraming p (modPort p clearPort s))

theorem portPrivate_portCleared (p : Port) (s : State) : PortPrivate (otherPort p) s (portCleared p s) := by
  refine ((portPrivate_modPort_other p clearPort s).trans ?_).trans (acts_removeEdits p _).other
  cases p with
  | service => exact (acts_serviceFraming ..).other
  | energy => exact (acts_energyFraming ..).other

theorem portCleared_frame (p : Port) (s : State) : (portCleared p s).feedOn = s.feedOn ∧
    (portCleared p s).admitted = s.admitted ∧ (portCleared p s).channels = s.channels ∧
    (portOf (portCleared p s) p).vote = false := by cases p <;> exact ⟨rfl, rfl, rfl, rfl⟩

theorem acts_doResetPort (p : Port) (s : State) : Acts p s (doResetPort p s) := by
  obtain ⟨hf, ha, hc, hv⟩ := portCleared_frame p s
  refine Acts.trans (acts_withoutVote (portPrivate_portCleared p s) hv hf ?_ true) (acts_done ..)
  exact switchesSound_of_kept hf ha fun c => chanAt_congr hc c ▸ .refl _

/-! ### The other commands -/

theorem acts_doTake (p : Port) (s : State) : Acts p s (doTake p s) := by
  unfold doTake
  split
  · exact Acts.trans (acts_modPort rfl) (acts_done ..)
  · exact acts_refuse ..

theorem acts_doAck (p : Port) (arg : Word) (s : State) : Acts p s (doAck p arg s) :=
  Acts.trans (acts_modPort rfl) (acts_done ..)

theorem acts_doMask (p : Port) (arg : Word) (s : State) : Acts p s (doMask p arg s) :=
  Acts.trans (acts_modPort rfl) (acts_done ..)

theorem acts_doWatermark (p : Port) (arg : Word) (s : State) : Acts p s (doWatermark p arg s) := by
  unfold doWatermark
  simp only
  split
  · exact Acts.trans (acts_modPort rfl) (acts_done ..)
  · exact acts_refuse ..

theorem acts_doSeek (p : Port) (arg : Word) (s : State) : Acts p s (doSeek p arg s) := by
  unfold doSeek
  split
  · split
    · exact Acts.trans (acts_modPort rfl) (acts_done ..)
    · exact acts_refuse ..
  · exact acts_refuse ..

theorem acts_readWord (p : Port) (s : State) : Acts p s (readWord p s).2 := by
  obtain ⟨n, h⟩ := readWord_eq p s
  have hfree : Calm s { s with freeCount := n } := ⟨tame_of_registers rfl rfl rfl, fun _ => .refl _⟩
  rw [h]
  exact (hfree.acts p).trans (acts_modPort rfl)

theorem acts_readWords (p : Port) (n : Nat) (s : State) : Acts p s (readWords p n s).2 := by
  induction n generalizing s with
  | zero => exact .refl p s
  | succ n ih => exact (acts_readWord p s).trans (ih _)

theorem acts_doRead (p : Port) (arg : Word) (s : State) : Acts p s (doRead p arg s) := by
  unfold doRead
  simp only
  split
  · exact (acts_readWords ..).trans (acts_done ..)
  · exact acts_refuse ..

theorem otherPort_ne (p : Port) : p ≠ otherPort p := by cases p <;> decide

theorem acts_appendEdit (p : Port) (content : EditContent) (s : State) : Acts p s (appendEdit p content s) := by
  refine Acts.trans (Acts.trans (acts_edits ?_) (acts_modPort rfl)) (acts_done ..)
  simp [editsOf, List.filter_append, otherPort_ne]

theorem acts_doPost (p : Port) (w1 w2 : Word) (s : State) : Acts p s (doPost p w1 w2 s) := by
  unfold doPost
  split
  · exact acts_refuse ..
  · split
    · exact acts_refuse ..
    · split
      · exact acts_refuse ..
      · split
        · exact acts_refuse ..
        · exact acts_appendEdit ..

theorem acts_doCancelEdits (p : Port) (s : State) : Acts p s (doCancelEdits p s) :=
  (acts_removeEdits p s).trans (acts_done ..)

/-! ### Channel commands -/

theorem acts_channelCommand {p : Port} {cmd : Cmd} {arg : Word} {s : State} {act : Chan → State} (h : ∀ c, Acts p s (act c)) :
    Acts p s (channelCommand p cmd arg s act) := by
  unfold channelCommand
  split
  · split
    · exact h _
    · exact acts_refuse ..
  · exact acts_refuse ..

/-- A calm change answered DONE with the channel's state. -/
theorem Calm.acts_doneChan {s t : State} (h : Calm s t) (p : Port) (cmd : Cmd) (c : Chan) : Acts p s (doneChan p cmd c t) :=
  (h.acts p).trans (acts_done ..)

theorem acts_doProbe (p : Port) (arg : Word) (s : State) : Acts p s (doProbe p arg s) := by
  refine acts_channelCommand fun c => ?_
  simp only
  split
  · exact acts_refuse ..
  · split
    · exact acts_refuse ..
    · split
      · exact acts_done ..
      · split
        · exact ((calm_appendProbe _ s).acts p).trans (acts_done ..)
        · exact acts_refuse ..

theorem acts_doWake (p : Port) (arg : Word) (s : State) : Acts p s (doWake p arg s) := by
  refine acts_channelCommand fun c => ?_
  simp only
  split
  · have hwake : Calm s (modChan c wakeChannel s) := calm_modChan (.of_same rfl fun _ => rfl)
    exact (hwake.trans (calm_cancelProbe c _)).acts_doneChan ..
  · exact acts_refuse ..

theorem acts_doRetire (p : Port) (arg : Word) (s : State) : Acts p s (doRetire p arg s) := by
  refine acts_channelCommand fun c => ?_
  split
  · exact acts_refuse ..
  · exact ((calm_enterRetired c s).trans (calm_cancelProbe c _)).acts_doneChan ..

theorem acts_doRelease (p : Port) (arg : Word) (s : State) : Acts p s (doRelease p arg s) := by
  refine acts_channelCommand fun c => ?_
  split
  · have hstrikes : Calm s (modChan c (fun ch => { ch with strikes := 0 }) s) := calm_modChan_record s rfl rfl
    exact (hstrikes.trans (calm_enterDark ..)).acts_doneChan ..
  · exact acts_refuse ..

theorem acts_doClearFault (p : Port) (arg : Word) (s : State) : Acts p s (doClearFault p arg s) := by
  refine acts_channelCommand fun c => ?_
  split
  · exact acts_refuse ..
  · split
    · exact (calm_enterDark ..).acts_doneChan ..
    · exact acts_refuse ..

theorem acts_doTest (p : Port) (arg : Word) (s : State) : Acts p s (doTest p arg s) := by
  refine acts_channelCommand fun c => ?_
  have hrequest : Calm s (modChan c (requestTest (bits 23 16 arg)) s) := calm_modChan_record s rfl rfl
  simp only
  split
  · exact acts_refuse ..
  · split
    · exact acts_refuse ..
    · split
      · exact acts_refuse ..
      · split
        all_goals
          split
          · exact acts_refuse ..
          · exact hrequest.acts_doneChan ..

theorem acts_doAbortTest (p : Port) (arg : Word) (s : State) : Acts p s (doAbortTest p arg s) := by
  refine acts_channelCommand fun c => ?_
  simp only
  split
  · exact acts_refuse ..
  · split
    · split
      · exact acts_refuse ..
      · exact (calm_endTest ..).acts_doneChan ..
    · have hresume : Calm s (modChan c (resumeChannel true) s) := calm_modChan (.of_stays .rfl .rfl fun _ => rfl)
      exact hresume.acts_doneChan ..
    · exact acts_refuse ..

theorem acts_doSend (p : Port) (arg : Word) (s : State) : Acts p s (doSend p arg s) := by
  refine acts_channelCommand fun c => ?_
  simp only
  split
  · exact acts_refuse ..
  · split
    · exact acts_refuse ..
    · split
      · exact acts_refuse ..
      · split
        · exact acts_refuse ..
        · exact (calm_modChan_record s rfl rfl).acts_doneChan ..

/-! ### The energy account's commands -/

theorem calm_account (g : Grant) (rp : Nat) (s : State) : Calm s { s with grant := g, reserve := rp } :=
  (tame_account s.busLow g rp s.tallies s).calm fun _ => rfl

theorem acts_doSetGrant (p : Port) (arg : Word) (s : State) : Acts p s (doSetGrant p arg s) := by
  unfold doSetGrant
  simp only
  split
  · split
    · exact ((calm_account _ s.reserve s).acts p).trans (acts_done ..)
    · exact acts_refuse ..
  · exact acts_refuse ..

theorem acts_doDeposit (p : Port) (arg : Word) (s : State) : Acts p s (doDeposit p arg s) := by
  have hreserve := fun rp => calm_account s.grant rp s
  unfold doDeposit
  simp only
  split
  · split
    · exact ((Calm.ite ((hreserve _).trans (calm_report ..)) (hreserve _)).acts p).trans (acts_done ..)
    · exact acts_refuse ..
  · exact acts_refuse ..

theorem acts_doDrain (p : Port) (s : State) : Acts p s (doDrain p s) := by
  unfold doDrain
  split
  · exact ((calm_account s.grant 0 s).acts p).trans (acts_done ..)
  · exact acts_refuse ..

/-! ### Execution and framing -/

theorem acts_runCommand (cmd : Cmd) (p : Port) (args : List Word) (s : State) : Acts p s (runCommand cmd p args s) := by
  cases cmd with
  | nop => exact acts_done ..
  | status => exact acts_done ..
  | seek => exact acts_doSeek p _ s
  | read => exact acts_doRead p _ s
  | take => exact acts_doTake p s
  | ack => exact acts_doAck p _ s
  | mask => exact acts_doMask p _ s
  | watermark => exact acts_doWatermark p _ s
  | vote => exact acts_doVote p _ s
  | resetPort => exact acts_doResetPort p s
  | post => exact acts_doPost p _ _ s
  | cancelEdits => exact acts_doCancelEdits p s
  | probe => exact acts_doProbe p _ s
  | wake => exact acts_doWake p _ s
  | retire => exact acts_doRetire p _ s
  | release => exact acts_doRelease p _ s
  | clearFault => exact acts_doClearFault p _ s
  | test => exact acts_doTest p _ s
  | abortTest => exact acts_doAbortTest p _ s
  | send => exact acts_doSend p _ s
  | setGrant => exact acts_doSetGrant p _ s
  | deposit => exact acts_doDeposit p _ s
  | drain => exact acts_doDrain p s

theorem acts_refuseUnknown (p : Port) (code : Byte) (s : State) : Acts p s (refuseUnknown p code s) := acts_reply ..

theorem acts_passWord (t : ServiceTransaction) (f : ServiceTransaction → ServiceTransaction) (s : State) :
    Acts .service s (passWord t f s) := acts_serviceFraming ..

theorem acts_serviceWord (w : Word) (s : State) : Acts .service s (serviceWord w s) := by
  unfold serviceWord
  split
  · exact .refl _ s
  · split
    · exact acts_passWord ..
    · split
      · split
        · exact (acts_passWord ..).trans (acts_refuseUnknown ..)
        · split
          · exact (acts_passWord ..).trans (acts_runCommand ..)
          · exact acts_passWord ..
      · split
        · exact acts_passWord ..
        · split
          · exact (acts_passWord ..).trans (acts_runCommand ..)
          · exact acts_passWord ..

theorem acts_serviceSelect (s : State) : Acts .service s (serviceSelect s) := by
  unfold serviceSelect
  split
  · exact .refl _ s
  · exact (acts_setReply .service none s).trans (acts_serviceFraming ..)

theorem acts_serviceDeselect (s : State) : Acts .service s (serviceDeselect s) := by
  unfold serviceDeselect
  split
  · exact .refl _ s
  · simp only
    split
    · exact acts_serviceFraming ..
    · split
      · exact acts_serviceFraming ..
      · exact (acts_serviceFraming none none s).trans (acts_reply ..)

theorem acts_assembly (a : Assembly) (s : State) : Acts .energy s { s with assembly := a } :=
  acts_energyFraming s.bus a s.readPos s.sda s.ackOut s

theorem acts_bus (bus : BusState) (ack : Bool) (s : State) : Acts .energy s { s with bus := bus, ackOut := ack } :=
  acts_energyFraming bus s.assembly s.readPos s.sda ack s

theorem acts_joinByte (b : Byte) (s : State) : Acts .energy s (joinByte b s) := by
  unfold joinByte
  simp only
  split
  · exact .refl _ s
  · split
    · exact acts_assembly ..
    · split
      · split
        · exact (acts_assembly .reset s).trans (acts_runCommand ..)
        · exact acts_assembly ..
      · exact acts_assembly ..

theorem acts_flushLone (s : State) : Acts .energy s (flushLone s) := by
  unfold flushLone
  split
  · exact (acts_assembly _ s).trans (acts_joinByte ..)
  · exact .refl _ s

theorem acts_takeCommandByte (b : Byte) (s : State) : Acts .energy s (takeCommandByte b s) := by
  unfold takeCommandByte
  split
  · exact acts_refuseUnknown ..
  · split
    · exact acts_runCommand ..
    · exact acts_assembly ..

theorem acts_energyByte (b : Byte) (s : State) : Acts .energy s (energyByte b s) := by
  unfold energyByte
  split
  · exact .refl _ s
  · exact .refl _ s
  · rename_i n _
    have hcount : Acts .energy s (countByte n (flushLone s)) := (acts_flushLone s).trans (acts_bus ..)
    simp only
    split
    · exact hcount.trans (acts_takeCommandByte ..)
    · split
      · exact hcount.trans (acts_assembly ..)
      · exact hcount.trans (acts_joinByte ..)

theorem acts_energyStop (s : State) : Acts .energy s (energyStop s) := by
  have hlone : Acts .energy s (loneStatus s) := (acts_assembly .reset s).trans (acts_done ..)
  unfold energyStop
  split
  · refine Acts.trans ?_ (acts_bus ..)
    split
    · exact hlone
    · exact .refl _ s
  · exact acts_bus ..
  · exact acts_bus ..

theorem acts_energyAddressed (b : Byte) (s : State) : Acts .energy s (energyAddressed b s) := by
  unfold energyAddressed
  simp only
  split
  · exact (acts_energyStop s).trans (acts_bus ..)
  · exact (acts_energyStop s).trans (acts_bus ..)

theorem acts_energyReadByte (s : State) : Acts .energy s (energyReadByte s) := by
  unfold energyReadByte
  split
  · exact .refl _ s
  · exact .refl _ s
  · split
    · exact acts_energyFraming s.bus s.assembly s.readPos _ s.ackOut s
    · simp only
      split
      · exact acts_energyFraming ..
      · exact (acts_setReply .energy none s).trans (acts_energyFraming ..)

theorem acts_commandTaken (p : Port) (s : State) : Acts p s (commandTaken p s) := by
  cases p with
  | service =>
    obtain ⟨tr, sd, h⟩ := commandTaken_service_frame s
    rw [h]
    exact acts_serviceFraming ..
  | energy =>
    unfold commandTaken
    simp only
    split
    · exact (acts_flushLone s).trans (acts_energyFraming ..)
    · exact acts_flushLone s
    · exact acts_flushLone s

end Sys2Proof.Machine
end

/-! ## The frame opening, the slot start and reset, and what every step keeps of ports, feed and switches -/

section
namespace Sys2Proof.Machine

/-! ### The frame opening -/

theorem portGrows_latchFrame (ps : PortState) : PortGrows ps { ps with frameCause := true } :=
  { PortGrows.refl ps with frame := fun _ => rfl }

/-- FRAME is latched at both ports beside what they have (R176); the pending edits alone go. -/
theorem portKept_frameOpening (s : State) (p : Port) : PortKept p s (frameOpening s) := by
  have hedited := (calm_editedFrame s).ports
  have hlatched := ((calm_editedFrame s).toTame.trans (tame_latchGrant _)).ports
  have hservice : (frameOpening s).service = { (editedFrame s).service with frameCause := true } := by rw [frameOpening_frame]
  refine ⟨?_, fun hp => ?_, fun hp => ?_⟩
  · cases p with
    | service =>
      change PortGrows _ (frameOpening s).service
      rw [hservice]
      exact (hedited .service).port.trans (portGrows_latchFrame _)
    | energy =>
      change PortGrows _ (frameOpening s).energy
      rw [frameOpening_energy]
      exact (hlatched .energy).port.trans (portGrows_latchFrame _)
  · rw [frameOpening_frame]
    exact (hedited p).service hp
  · rw [frameOpening_frame]
    exact (hedited p).energy hp

theorem frameOpening_feedOn (s : State) : (frameOpening s).feedOn = s.feedOn := by
  rw [frameOpening_frame]
  exact (calm_editedFrame s).feedOn

theorem frameOpening_admitted (s : State) : (frameOpening s).admitted = s.admitted := by
  rw [frameOpening_frame]
  exact (calm_editedFrame s).admitted

theorem soundKept_frameOpening (s : State) : SoundKept s (frameOpening s) := by
  refine ⟨feedAgrees_of_votes (frameOpening_feedOn s) fun p => (portKept_frameOpening s p).port.vote,
    switchesSound_of_kept (frameOpening_feedOn s) (frameOpening_admitted s) fun c => ?_⟩
  rw [chanAt_frameOpening]
  exact ((calm_editedFrame s).switches c).trans (switchKept_countFrame _)

/-! ### The slot start -/

/-- A channel admitted is switched on or stays on, and is powered (R19, R29). -/
theorem switchSound_listed {allowed : Bool} {x : Channel} (h : SwitchSound allowed x) (hp : powered x.life = true)
    (g : Globals) (now len : Nat) (exchange : Bool) : SwitchSound true (slotStartChannel g now len true exchange x) := by
  rw [slotStartChannel_of_listed]
  refine ⟨?_, fun _ => ⟨rfl, hp⟩⟩
  cases ho : x.sw.switchOn with
  | none => simp [closeSwitch]
  | some o => simpa [ho] using h.1

/-- A channel not admitted has its switch opened for good (R20). -/
theorem switchSound_unlisted {allowed : Bool} {x : Channel} (h : SwitchSound allowed x) (allowed' : Bool)
    (g : Globals) (now len : Nat) (exchange : Bool) : SwitchSound allowed' (slotStartChannel g now len false exchange x) := by
  obtain ⟨hstate, hon⟩ := openSwitch_open h g now
  exact .of_open hstate hon

theorem slotBase_feedOn (s : State) : (slotBase s).feedOn = s.feedOn := by
  obtain ⟨low, n, en, h⟩ := slotBase_eq s
  rw [h]

/-- A slot start admits powered channels, and with the feed ON alone (R27, R29). -/
theorem slotBudget_listed {s : State} {c : Chan} (h : (slotBudget s).entries.any (fun e => e.chan = c) = true) :
    s.feedOn = true ∧ powered (chanAt s c).life = true := by
  obtain ⟨e, he, hec⟩ := List.any_eq_true.1 h
  have hc : e.chan = c := of_decide_eq_true hec
  constructor
  · by_contra hoff
    rw [slotBudget, admission_of_null (.inl (by rw [slotBase_feedOn]; exact Bool.eq_false_iff.2 hoff))] at he
    cases he
  · have hmem := (admission_sublist (slotBase s) (currentRow (slotBase s))).1.subset (List.mem_map_of_mem he)
    have heligible := ((mem_sortedMembers _ _ _).1 hmem).2
    rw [← chanAt_slotBase, ← hc]
    exact ((eligible_iff _ _ _).1 heligible).1

theorem SwitchesSound.slotAdmitted {s : State} (h : SwitchesSound s) : SwitchesSound (slotAdmitted s) := by
  have hfeed : (Machine.slotAdmitted s).feedOn = s.feedOn := by
    obtain ⟨low, en, ta, he⟩ := slotAdmitted_policy s
    rw [he]
  rw [switchesSound_iff] at h ⊢
  intro c
  obtain ⟨n, hn, -⟩ := chanAt_countSheds_range (slotBudget s).shed (slotBase s) c
  have hx : SwitchSound (s.feedOn && isAdmitted s c) { chanAt s c with shed := n } := h c
  rw [chanAt_slotAdmitted, hn, chanAt_slotBase, isAdmitted_slotAdmitted, hfeed]
  cases hin : (slotBudget s).entries.any fun e => e.chan = c with
  | true =>
    obtain ⟨hon, hp⟩ := slotBudget_listed hin
    rw [hon]
    exact switchSound_listed hx hp ..
  | false => exact switchSound_unlisted hx ..

theorem portPrivate_slotAdmitted (s : State) (p : Port) : PortPrivate p s (slotAdmitted s) := by
  have hbase : Tame s (slotBase s) :=
    (tame_timebase s.inReset s.frame s.slotIndex s.rotor 0 .running s.strap1 s.strap0 s).trans (tame_evaluateBus _)
  have hregisters : portRegisters (slotAdmitted s) = portRegisters (slotBase s) := by rw [slotAdmitted_frame]; rfl
  exact (hbase.ports p).trans (portPrivate_of_registers hregisters p)

theorem calm_beginSlot (s : State) : Calm (slotAdmitted s) (beginSlot s) := by
  rw [beginSlot_eq]
  exact .ite (calm_look _) (.refl _)

theorem portPrivate_beginSlot (s : State) (p : Port) : PortPrivate p s (beginSlot s) :=
  (portPrivate_slotAdmitted s p).trans ((calm_beginSlot s).ports p)

theorem soundKept_beginSlot (s : State) : SoundKept s (beginSlot s) := by
  refine SoundKept.trans ⟨feedAgrees_of_votes ?_ fun p => (portPrivate_slotAdmitted s p).port.vote, fun h => h.slotAdmitted⟩
    (calm_beginSlot s).soundKept
  obtain ⟨low, en, ta, he⟩ := slotAdmitted_policy s
  rw [he]

/-- The release and the slot index are no port's and no switch's. -/
theorem calm_startWrite (r : Bool) (index : Nat) (adr1 adr0 : Bool) (s : State) :
    Calm s { s with inReset := r, slotIndex := index, strap1 := adr1, strap0 := adr0 } :=
  (tame_timebase r s.frame index s.rotor s.slotTime s.phase adr1 adr0 s).calm fun _ => rfl

/-! ### Every step -/

/-- A step answers with a state that stands in `R` to the one it found. -/
def AnswersWith (R : State → State → Prop) (s : State) (o : Host.Outcome State Fault Refusal) : Prop :=
  ∃ t, o = .next t ∧ R s t

theorem AnswersWith.elim {R : State → State → Prop} {s t : State} {o : Host.Outcome State Fault Refusal}
    (h : AnswersWith R s o) (ho : o = .next t) : R s t := by
  obtain ⟨u, hu, hR⟩ := h
  rw [ho] at hu
  cases hu
  exact hR

theorem calm_whenLive {s t : State} (h : Calm s t) : AnswersWith Calm s (whenLive s t) := ⟨_, rfl, .ite (.refl s) h⟩

theorem Acts.ite {p : Port} {s t u : State} {q : Prop} [Decidable q] (ht : Acts p s t) (hu : Acts p s u) :
    Acts p s (if q then t else u) := by split <;> assumption

theorem acts_whenLive {p : Port} {s t : State} (h : Acts p s t) : AnswersWith (Acts p) s (whenLive s t) :=
  ⟨_, rfl, .ite (.refl p s) h⟩

theorem acts_atPort {p : Port} {cmd : Cmd} {args : List Word} {act : State → State} (h : ∀ t, Acts p t (act t)) (s : State) :
    AnswersWith (Acts p) s (.next (atPort p cmd args act s)) :=
  ⟨_, rfl, .ite ((acts_commandTaken p s).trans (h _)) (.refl p s)⟩

theorem acts_unknownCommand (p : Port) (code : Byte) (s : State) : AnswersWith (Acts p) s (execUnknownCommand p code s) :=
  ⟨_, rfl, .ite ((acts_commandTaken p s).trans (acts_refuseUnknown ..)) (.refl p s)⟩

theorem acts_status (p : Port) (s : State) : AnswersWith (Acts p) s (execStatus p s) := by
  refine ⟨_, rfl, ?_⟩
  split
  · rename_i h
    obtain ⟨rfl, -⟩ := h
    exact Acts.trans (.ite (.refl _ s) (acts_energyByte ..)) (acts_energyStop _)
  · exact .ite ((acts_commandTaken p s).trans (acts_done ..)) (.refl p s)

/-- What a step of no port's does, but for those of reset and the timebase. -/
theorem exec_calm {i : Instr} (hi : timebaseStep i = false) (hp : commandPort i = none) (s : State) :
    AnswersWith Calm s (exec i s) := by
  cases i with
  | openLoadLost c => exact calm_whenLive (calm_openLoadLost c s)
  | switchOnComplete c => exact calm_whenLive (calm_switchOnComplete c s)
  | rampEnd c => exact calm_whenLive (calm_rampEnd c s)
  | chopPeriodStart c => exact calm_whenLive (calm_chopPeriodStart c s)
  | tripAssert c => exact calm_whenLive (calm_tripAssert c s)
  | overcurrentAssert c => exact calm_whenLive (calm_overcurrentAssert c s)
  | detectorLevelCrossing c current instant => exact calm_whenLive (calm_levelCrossing c current instant s)
  | exchangeStart c => exact calm_whenLive (calm_exchangeStart c s)
  | downlinkEnd c b => exact calm_whenLive (calm_downlinkEnd c b s)
  | answerStart c instant rise => exact calm_whenLive (calm_answerStart c instant rise s)
  | windowExpiry c => exact calm_whenLive (calm_windowExpiry c s)
  | uplinkEnd c average => exact calm_whenLive (calm_uplinkEnd c average s)
  | probeEndLine reading => exact calm_whenLive (calm_probeEndLine reading s)
  | probeEndPair reading => exact calm_whenLive (calm_probeEndPair reading.val s)
  | deviceReset | resetRelease | sampleEvent | slotEnd | frameOpening | slotStart => cases hi
  | serviceSelect | serviceDeselect | serviceWordCompletion | energyAddressByte | energyCommandByte | energyArgumentByte
  | energyReadByte | energyStopCondition | unknownCommand | nop | status | seek | read | take | ack | mask | watermark | vote
  | resetPort | post | cancelEdits | probe | wake | retire | release | clearFault | test | abortTest | send | setGrant
  | deposit | drain => cases hp

/-- What a command or a framing step of a port does. -/
theorem exec_acts {i : Instr} {p : Port} (hp : commandPort i = some p) (s : State) : AnswersWith (Acts p) s (exec i s) := by
  cases i with
  | serviceSelect => cases hp; exact acts_whenLive (acts_serviceSelect s)
  | serviceDeselect => cases hp; exact acts_whenLive (acts_serviceDeselect s)
  | serviceWordCompletion w => cases hp; exact acts_whenLive (acts_serviceWord w s)
  | energyAddressByte b => cases hp; exact acts_whenLive (acts_energyAddressed b s)
  | energyCommandByte b => cases hp; exact acts_whenLive (.ite (acts_energyByte b s) (.refl _ s))
  | energyArgumentByte b => cases hp; exact acts_whenLive (.ite (acts_energyByte b s) (.refl _ s))
  | energyReadByte => cases hp; exact acts_whenLive (acts_energyReadByte s)
  | energyStopCondition => cases hp; exact acts_whenLive (acts_energyStop s)
  | unknownCommand q code => cases hp; exact acts_unknownCommand p code s
  | status q => cases hp; exact acts_status p s
  | nop q => cases hp; exact acts_atPort (acts_runCommand .nop p []) s
  | seek q a => cases hp; exact acts_atPort (acts_doSeek p a) s
  | read q a => cases hp; exact acts_atPort (acts_doRead p a) s
  | take q => cases hp; exact acts_atPort (acts_doTake p) s
  | ack q a => cases hp; exact acts_atPort (acts_doAck p a) s
  | mask q a => cases hp; exact acts_atPort (acts_doMask p a) s
  | watermark q a => cases hp; exact acts_atPort (acts_doWatermark p a) s
  | vote q a => cases hp; exact acts_atPort (acts_doVote p a) s
  | resetPort q => cases hp; exact acts_atPort (acts_doResetPort p) s
  | post q a b => cases hp; exact acts_atPort (acts_doPost p a b) s
  | cancelEdits q => cases hp; exact acts_atPort (acts_doCancelEdits p) s
  | probe q a => cases hp; exact acts_atPort (acts_doProbe p a) s
  | wake q a => cases hp; exact acts_atPort (acts_doWake p a) s
  | retire q a => cases hp; exact acts_atPort (acts_doRetire p a) s
  | release q a => cases hp; exact acts_atPort (acts_doRelease p a) s
  | clearFault q a => cases hp; exact acts_atPort (acts_doClearFault p a) s
  | test q a => cases hp; exact acts_atPort (acts_doTest p a) s
  | abortTest q a => cases hp; exact acts_atPort (acts_doAbortTest p a) s
  | send q a => cases hp; exact acts_atPort (acts_doSend p a) s
  | setGrant q a => cases hp; exact acts_atPort (acts_doSetGrant p a) s
  | deposit q a => cases hp; exact acts_atPort (acts_doDeposit p a) s
  | drain q => cases hp; exact acts_atPort (acts_doDrain p) s
  | _ => cases hp

/-- What every step that is not its own leaves a port, device reset aside. -/
theorem portKept_exec {i : Instr} {s t : State} {p : Port} (hp : commandPort i ≠ some p) (hreset : i ≠ .deviceReset)
    (h : exec i s = .next t) : PortKept p s t ∧ (i ≠ .frameOpening → editsOf p t = editsOf p s) := by
  have of_own : PortPrivate p s t → PortKept p s t ∧ (i ≠ .frameOpening → editsOf p t = editsOf p s) := fun k =>
    ⟨k.toPortKept, fun _ => k.edits⟩
  have hrefl : PortPrivate p s s := (Tame.refl s).ports p
  cases hport : commandPort i with
  | some q =>
    rcases eq_or_eq_otherPort q p with rfl | rfl
    · exact absurd hport hp
    · exact of_own ((exec_acts hport s).elim h).other
  | none =>
    cases hi : timebaseStep i with
    | false => exact of_own (((exec_calm hi hport s).elim h).ports p)
    | true =>
      cases i with
      | deviceReset => exact absurd rfl hreset
      | resetRelease adr1 adr0 =>
        refine of_own ?_
        cases h
        split
        · exact ((calm_startWrite false s.slotIndex adr1 adr0 s).ports p).trans (portPrivate_beginSlot ..)
        · exact hrefl
      | sampleEvent bus readings =>
        exact of_own (of_whenLive_ready (I := PortPrivate p s) hrefl (fun _ _ => (calm_sampleEvent bus readings s).ports p) h)
      | slotEnd => exact of_own (of_whenLive_ready (I := PortPrivate p s) hrefl (fun _ _ => (calm_slotEnd s).ports p) h)
      | frameOpening =>
        refine ⟨?_, fun h0 => absurd rfl h0⟩
        exact of_whenLive_ready (I := PortKept p s) hrefl.toPortKept (fun _ _ => portKept_frameOpening s p) h
      | slotStart =>
        refine of_own (of_whenLive_ready (I := PortPrivate p s) hrefl (fun _ hready => ?_) h)
        rw [slotStart_eq hready]
        exact ((calm_startWrite s.inReset _ s.strap1 s.strap0 s).ports p).trans (portPrivate_beginSlot ..)
      | _ => cases hi

/-- Settles O53: a command of the other port acts on its own port alone, and no event of the block does more than enter
records and latch causes. -/
theorem portStateIsPrivate : Obligations.PortStateIsPrivate := by
  unfold Obligations.PortStateIsPrivate
  intro i s t p hp hreset h
  obtain ⟨⟨hport, hservice, henergy⟩, hedits⟩ := portKept_exec hp hreset h
  exact ⟨hport.vote, hport.reply, hport.pointer, hport.latch, hport.mask, hport.watermark, hport.tagCounter, hport.queue,
    hport.loss, hport.frame, hport.voteLost, hservice, henergy, hedits⟩

theorem soundKept_exec {i : Instr} {s t : State} (h : exec i s = .next t) : SoundKept s t := by
  have hrefl : SoundKept s s := (Calm.refl s).soundKept
  cases hport : commandPort i with
  | some p => exact ((exec_acts hport s).elim h).toSoundKept
  | none =>
    cases hi : timebaseStep i with
    | false => exact ((exec_calm hi hport s).elim h).soundKept
    | true =>
      cases i with
      | deviceReset =>
        cases h
        exact ⟨fun _ => rfl, fun _ => switchesSound_reset s.pending s.freeCount⟩
      | resetRelease adr1 adr0 =>
        cases h
        split
        · exact (calm_startWrite false s.slotIndex adr1 adr0 s).soundKept.trans (soundKept_beginSlot _)
        · exact hrefl
      | sampleEvent bus readings =>
        exact of_whenLive_ready (I := SoundKept s) hrefl (fun _ _ => (calm_sampleEvent bus readings s).soundKept) h
      | slotEnd => exact of_whenLive_ready (I := SoundKept s) hrefl (fun _ _ => (calm_slotEnd s).soundKept) h
      | frameOpening => exact of_whenLive_ready (I := SoundKept s) hrefl (fun _ _ => soundKept_frameOpening s) h
      | slotStart =>
        refine of_whenLive_ready (I := SoundKept s) hrefl (fun _ hready => ?_) h
        rw [slotStart_eq hready]
        exact (calm_startWrite s.inReset _ s.strap1 s.strap0 s).soundKept.trans (soundKept_beginSlot _)
      | _ => cases hi

theorem soundKept_step {s t : State} (h : step s = .next t) : SoundKept s t := by
  unfold step at h
  split at h
  · cases h
    exact (Calm.refl s).soundKept
  · rename_i i rest _
    have hqueue : SoundKept s { s with pending := rest } := ⟨id, id⟩
    exact hqueue.trans (soundKept_exec h)

/-- Settles O56: each step keeps both, the votes and the feed moving together and every switch opening with its channel's
departure. -/
theorem feedAndSwitchesStaySound : Obligations.FeedAndSwitchesStaySound := by
  unfold Obligations.FeedAndSwitchesStaySound
  exact ⟨fun _ _ hs h => (soundKept_step h).feed hs, fun _ _ hs h => (soundKept_step h).switches hs⟩

end Sys2Proof.Machine
end

/-! ## The budget test, first-fit, and the admission of priority members (R33, R36, R39) -/

section
namespace Sys2Proof.Machine

/-- The budget test admits a member where `committed` stands committed (R33, R36, R39). -/
def BudgetAdmits (s : State) (committed : Nat) (c : Chan) : Prop :=
  isPriority (chanAt s c) = true ∨
    (¬ ((chanAt s c).cfg.cls = .standard ∧ s.holdStandard = true) ∧
      ¬ ((chanAt s c).cfg.cls = .deferrable ∧ s.holdDeferrable = true) ∧
      s.busLow = false ∧ ((chanAt s c).forecast = 0 ∨ committed + (chanAt s c).forecast ≤ s.grant.fr))

/-- The entry of a member admitted (R21). -/
def entryOf (s : State) (c : Chan) : Entry := { chan := c, priority := isPriority (chanAt s c) }

/-- The forecasts of the entries of a list. -/
def forecastsOf (s : State) (es : List Entry) : Nat := (es.map fun e => (chanAt s e.chan).forecast).sum

theorem classHeld_eq_false_iff (s : State) (cls : ChanClass) : classHeld s cls = false ↔
    ¬ (cls = .standard ∧ s.holdStandard = true) ∧ ¬ (cls = .deferrable ∧ s.holdDeferrable = true) := by
  cases cls <;> simp [classHeld]

/-- When a member that is no priority member is not shed (R33, R36, R39). -/
theorem shedTest_eq_false_iff (s : State) (cls : ChanClass) (committed forecast : Nat) :
    (classHeld s cls || s.busLow || (decide (forecast ≠ 0) && decide (s.grant.fr < committed + forecast))) = false ↔
      ¬ (cls = .standard ∧ s.holdStandard = true) ∧ ¬ (cls = .deferrable ∧ s.holdDeferrable = true) ∧
        s.busLow = false ∧ (forecast = 0 ∨ committed + forecast ≤ s.grant.fr) := by
  simp only [Bool.or_eq_false_iff, Bool.and_eq_false_iff, classHeld_eq_false_iff, decide_eq_false_iff_not, Decidable.not_not,
    ne_eq, Nat.not_lt, and_assoc]

theorem budgetStep_of_admits {s : State} {b : Budget} {c : Chan} (h : BudgetAdmits s b.committed c) : budgetStep s b c =
    { b with committed := b.committed + (chanAt s c).forecast, entries := b.entries ++ [entryOf s c] } := by
  cases hp : isPriority (chanAt s c) with
  | true => simp only [budgetStep, entryOf, hp, if_true]
  | false =>
    have hkept := (shedTest_eq_false_iff s _ b.committed _).2 (h.resolve_left (by simp [hp]))
    simp only [budgetStep, entryOf, hp, hkept, Bool.false_eq_true, if_false]

theorem budgetStep_of_not_admits {s : State} {b : Budget} {c : Chan} (h : ¬ BudgetAdmits s b.committed c) :
    budgetStep s b c = { b with shed := b.shed ++ [c] } := by
  obtain ⟨hp, hrest⟩ := not_or.1 h
  have hshed := Bool.not_eq_false _ ▸ (shedTest_eq_false_iff s _ b.committed _).not.2 hrest
  simp only [budgetStep, hp, hshed, if_true, Bool.false_eq_true, if_false]

/-- What the members `l` add to a budget: entries and shed members of theirs, and the entries' forecasts. -/
theorem budgetStep_foldl_adds (s : State) (l : List Chan) (b : Budget) : ∃ cs sh : List Chan,
    l.foldl (budgetStep s) b =
      { committed := b.committed + forecastsOf s (cs.map (entryOf s)), entries := b.entries ++ cs.map (entryOf s),
        shed := b.shed ++ sh } ∧ cs ⊆ l ∧ sh ⊆ l := by
  induction l generalizing b with
  | nil => exact ⟨[], [], by simp [forecastsOf], List.Subset.refl _, List.Subset.refl _⟩
  | cons c l ih =>
    obtain ⟨cs, sh, h, hcs, hsh⟩ := ih (budgetStep s b c)
    by_cases ha : BudgetAdmits s b.committed c
    · refine ⟨c :: cs, sh, ?_, List.cons_subset_cons c hcs, List.subset_cons_of_subset c hsh⟩
      rw [List.foldl_cons, h, budgetStep_of_admits ha]
      simp [forecastsOf, entryOf, Nat.add_assoc]
    · refine ⟨cs, c :: sh, ?_, List.subset_cons_of_subset c hcs, List.cons_subset_cons c hsh⟩
      rw [List.foldl_cons, h, budgetStep_of_not_admits ha]
      simp

/-- The empty budget, with which every budget test begins. -/
def Budget.empty : Budget := { committed := 0, entries := [], shed := [] }

/-- What the budget test has decided when it has met the members `before`. -/
def budgetAfter (s : State) (before : List Chan) : Budget := before.foldl (budgetStep s) .empty

theorem budgetTest_eq (s : State) (row : Row) : budgetTest s row = budgetAfter s (sortedMembers s row) := rfl

/-- After the members `before` a budget holds entries and shed members of theirs, and the entries' forecasts. -/
theorem budgetAfter_eq (s : State) (before : List Chan) : ∃ cs sh : List Chan, budgetAfter s before =
    { committed := forecastsOf s (cs.map (entryOf s)), entries := cs.map (entryOf s), shed := sh } ∧ cs ⊆ before ∧ sh ⊆ before := by
  obtain ⟨cs, sh, h, hsub⟩ := budgetStep_foldl_adds s before .empty
  exact ⟨cs, sh, h.trans (by simp [Budget.empty]), hsub⟩

/-- First-fit: the member `c` met after `before` is decided by what the forecasts of `before` committed. -/
theorem budgetAfter_split (s : State) (before : List Chan) (c : Chan) (after : List Chan) : ∃ cs sh : List Chan,
    cs ⊆ after ∧ sh ⊆ after ∧
    (BudgetAdmits s (budgetAfter s before).committed c →
      (budgetAfter s (before ++ c :: after)).entries = (budgetAfter s before).entries ++ entryOf s c :: cs.map (entryOf s) ∧
      (budgetAfter s (before ++ c :: after)).shed = (budgetAfter s before).shed ++ sh) ∧
    (¬ BudgetAdmits s (budgetAfter s before).committed c →
      (budgetAfter s (before ++ c :: after)).entries = (budgetAfter s before).entries ++ cs.map (entryOf s) ∧
      (budgetAfter s (before ++ c :: after)).shed = (budgetAfter s before).shed ++ c :: sh) := by
  obtain ⟨cs, sh, h, hcs, hsh⟩ := budgetStep_foldl_adds s after (budgetStep s (budgetAfter s before) c)
  have hsplit : budgetAfter s (before ++ c :: after) = after.foldl (budgetStep s) (budgetStep s (budgetAfter s before) c) := by
    simp only [budgetAfter, List.foldl_append, List.foldl_cons]
  refine ⟨cs, sh, hcs, hsh, fun ha => ?_, fun ha => ?_⟩
  · rw [hsplit, h, budgetStep_of_admits ha]
    simp
  · rw [hsplit, h, budgetStep_of_not_admits ha]
    simp

/-- A list without repetition holds each of its sublists as the members it has in common with it. -/
theorem filter_mem_of_sublist {α : Type} [DecidableEq α] {xs l : List α} (h : xs.Sublist l) (hl : l.Nodup) :
    (l.filter fun a => a ∈ xs) = xs := by
  have hsub : xs.Sublist (l.filter fun a => a ∈ xs) := by
    have hfilter := h.filter fun a => decide (a ∈ xs)
    rwa [List.filter_eq_self.2 fun a ha => decide_eq_true ha] at hfilter
  have hlen : (l.filter fun a => a ∈ xs).length ≤ xs.length :=
    (List.subperm_of_subset (hl.filter _) fun a ha => of_decide_eq_true (List.mem_filter.1 ha).2).length_le
  exact (hsub.eq_of_length_le hlen).symm

theorem map_chan_entryOf (s : State) (cs : List Chan) : (cs.map (entryOf s)).map Entry.chan = cs := by simp [Function.comp_def, entryOf]

theorem any_chan_entryOf (s : State) (cs : List Chan) (c : Chan) :
    ((cs.map (entryOf s)).any fun e => e.chan = c) = decide (c ∈ cs) := by
  rw [Bool.eq_iff_iff, List.any_eq_true, decide_eq_true_eq]
  constructor
  · rintro ⟨e, he, hc⟩
    obtain ⟨d, hd, rfl⟩ := List.mem_map.1 he
    exact of_decide_eq_true hc ▸ hd
  · exact fun hc => ⟨entryOf s c, List.mem_map_of_mem hc, decide_eq_true rfl⟩

/-- What stands committed after the members `before` is the forecasts of those of them that the whole test lists. -/
theorem committed_eq {s : State} {before rest : List Chan} (hnodup : (before ++ rest).Nodup) {b : Budget}
    (hb : b = budgetAfter s (before ++ rest)) : (budgetAfter s before).committed =
      ((before.filter fun d => b.entries.any fun e => e.chan = d).map fun d => (chanAt s d).forecast).sum := by
  obtain ⟨hbefore, -, hdisjoint⟩ := List.nodup_append.1 hnodup
  obtain ⟨cs, sh, h, -, -⟩ := budgetAfter_eq s before
  obtain ⟨cs', sh', h', hcs', -⟩ := budgetStep_foldl_adds s rest (budgetAfter s before)
  have hentries : b.entries = cs.map (entryOf s) ++ cs'.map (entryOf s) := by
    rw [hb, budgetAfter, List.foldl_append]
    exact (congrArg Budget.entries h').trans (by rw [h])
  have hsub : cs.Sublist before := by
    have := (budgetStep_foldl_sublist s before .empty).1
    rw [show before.foldl (budgetStep s) .empty = budgetAfter s before from rfl, h, map_chan_entryOf] at this
    simpa [Budget.empty] using this
  have hfilter : (before.filter fun d => b.entries.any fun e => e.chan = d) = cs := by
    refine (List.filter_congr fun d hd => ?_).trans (filter_mem_of_sublist hsub hbefore)
    have hnot : d ∉ cs' := fun h0 => hdisjoint d hd d (hcs' h0) rfl
    rw [hentries, List.any_append, any_chan_entryOf, any_chan_entryOf]
    simp [hnot]
  rw [hfilter, h]
  simp [forecastsOf, entryOf, Function.comp_def]

/-- A member met after `before` enters the list or is shed, by what the forecasts of `before` committed. -/
theorem budgetTest_decides {s : State} {row : Row} (hmembers : row.members.Nodup) {before after : List Chan} {c : Chan}
    (hsplit : sortedMembers s row = before ++ c :: after) :
    (BudgetAdmits s (budgetAfter s before).committed c →
      c ∈ (budgetTest s row).entries.map Entry.chan ∧ c ∉ (budgetTest s row).shed) ∧
    (¬ BudgetAdmits s (budgetAfter s before).committed c →
      c ∉ (budgetTest s row).entries.map Entry.chan ∧ c ∈ (budgetTest s row).shed) := by
  have hnodup := sortedMembers_nodup s hmembers
  rw [hsplit] at hnodup
  obtain ⟨-, hafter, hdisjoint⟩ := List.nodup_append.1 hnodup
  have hcb : c ∉ before := fun h0 => hdisjoint c h0 c List.mem_cons_self rfl
  have hca : c ∉ after := (List.nodup_cons.1 hafter).1
  obtain ⟨cs, sh, h, hcs, hsh⟩ := budgetAfter_eq s before
  obtain ⟨cs', sh', hcs', hsh', hadmit, hshed⟩ := budgetAfter_split s before c after
  rw [← hsplit, ← budgetTest_eq] at hadmit hshed
  have hentries : (budgetAfter s before).entries = cs.map (entryOf s) := by rw [h]
  have hsheds : (budgetAfter s before).shed = sh := by rw [h]
  refine ⟨fun ha => ?_, fun ha => ?_⟩
  · obtain ⟨he, hs⟩ := hadmit ha
    rw [he, hs, hsheds]
    exact ⟨by simp [entryOf], fun h0 => (List.mem_append.1 h0).elim (fun h1 => hcb (hsh h1)) fun h1 => hca (hsh' h1)⟩
  · obtain ⟨he, hs⟩ := hshed ha
    rw [he, hs, hentries, ← List.map_append, map_chan_entryOf]
    exact ⟨fun h0 => (List.mem_append.1 h0).elim (fun h1 => hcb (hcs h1)) fun h1 => hca (hcs' h1), by simp⟩

/-- The test lists each entry with its channel's priority flag. -/
theorem budgetTest_priority {s : State} {row : Row} {e : Entry} (he : e ∈ (budgetTest s row).entries) :
    e.priority = isPriority (chanAt s e.chan) := by
  obtain ⟨cs, sh, h, -, -⟩ := budgetAfter_eq s (sortedMembers s row)
  rw [budgetTest_eq, h] at he
  obtain ⟨d, -, rfl⟩ := List.mem_map.1 he
  rfl

/-- Settles O18: each member by the split of the members at it. -/
theorem budgetTestIsFirstFit : Obligations.BudgetTestIsFirstFit := by
  unfold Obligations.BudgetTestIsFirstFit
  intro s row hmembers b inList
  have hin : ∀ c, inList c ↔ c ∈ b.entries.map Entry.chan := fun c => by simp [inList]
  obtain ⟨hentriesSub, hshedSub⟩ := budgetStep_foldl_sublist s (sortedMembers s row) .empty
  refine ⟨hentriesSub, hshedSub, fun c hc => ?_, fun e => budgetTest_priority, fun before c after hsplit => ?_⟩
  · obtain ⟨before, after, hsplit⟩ := List.append_of_mem hc
    obtain ⟨hadmit, hshed⟩ := budgetTest_decides hmembers hsplit
    rw [hin]
    exact (Classical.em _).imp hadmit hshed
  · intro committed ch
    obtain ⟨hadmit, hshed⟩ := budgetTest_decides hmembers hsplit
    have hcommitted : (budgetAfter s before).committed = committed :=
      committed_eq (hsplit ▸ sortedMembers_nodup s hmembers) (by rw [← hsplit]; rfl)
    rw [hcommitted] at hadmit hshed
    rw [hin]
    exact ⟨fun h => by_contra fun ha => (hshed ha).1 h, fun ha => (hadmit ha).1⟩

/-! ### Priority members -/

/-- A priority member that is eligible enters the list with its flag, whatever the budget (R33). -/
theorem priority_mem_budgetTest {s : State} {row : Row} {c : Chan} (hc : c ∈ sortedMembers s row)
    (hp : isPriority (chanAt s c) = true) : { chan := c, priority := true } ∈ (budgetTest s row).entries := by
  obtain ⟨before, after, hsplit⟩ := List.append_of_mem hc
  obtain ⟨cs, sh, -, -, hadmit, -⟩ := budgetAfter_split s before c after
  rw [budgetTest_eq, hsplit, (hadmit (.inl hp)).1, ← hp]
  exact List.mem_append_right _ List.mem_cons_self

theorem beginSlot_admitted (s : State) : (beginSlot s).admitted = (slotBudget s).entries := by
  rw [(calm_beginSlot s).admitted, slotAdmitted_frame]

/-- The bus evaluation of a slot start makes nobody eligible. -/
theorem eligible_slotBase (s : State) (row : Row) (c : Chan) : eligible (slotBase s) row c = eligible s row c := by
  obtain ⟨low, n, en, h⟩ := slotBase_eq s
  rw [h]
  rfl

theorem priority_mem_slotBudget {s : State} {c : Chan} (hfeed : s.feedOn = true) (hrow : (currentRow s).feed = true)
    (hmem : c ∈ (currentRow s).members) (heligible : eligible s (currentRow s) c = true)
    (hp : isPriority (chanAt s c) = true) : { chan := c, priority := true } ∈ (slotBudget s).entries := by
  rw [slotBudget, currentRow_slotBase, admission_of_live ((slotBase_feedOn s).trans hfeed) hrow]
  refine priority_mem_budgetTest ((mem_sortedMembers ..).2 ⟨hmem, ?_⟩) ?_
  · rw [eligible_slotBase, heligible]
  · rw [chanAt_slotBase, hp]

/-- Settles O19: the member is eligible, and the budget test admits it whatever it finds committed. -/
theorem priorityMemberIsAdmitted : Obligations.PriorityMemberIsAdmitted := by
  unfold Obligations.PriorityMemberIsAdmitted
  intro s c hr hready hfeed row ch hrow hmem hlife hpriority hprobe hwaking
  have heligible : eligible s row c = true :=
    (eligible_iff s row c).2 ⟨(powered_iff _).2 hlife, (held_eq_false_iff s c).2 hprobe, hwaking⟩
  refine ⟨_, exec_slotStart hr hready, ?_⟩
  rw [beginSlot_admitted]
  exact priority_mem_slotBudget hfeed hrow hmem heligible ((isPriority_iff ch).2 hpriority)

end Sys2Proof.Machine
end

/-! ## VOTE and RESET_PORT (R22 to R25, R155, R170, R179) -/

section
namespace Sys2Proof.Machine

/-! ### The feed turning ON and OFF -/

theorem feedOffChannel_spec (g : Globals) (now : Nat) (x : Channel) : FeedOffChannel g now x (feedOffChannel g now x) :=
  ⟨openSwitch_openedFrom g now x.sw, rfl⟩

/-- The feed turning OFF: the channels, the record in both queues, VOTE_LOST at the other port (R24, R25). -/
theorem feedOff_eq (changer : Port) (portReset : Bool) (s : State) : feedOff changer portReset s =
    modPort (otherPort changer) (fun ps => { ps with voteLostCause := true })
      (report .energy none (.feedState false s.service.vote s.energy.vote changer portReset)
        (report .service none (.feedState false s.service.vote s.energy.vote changer portReset)
          { s with feedOn := false, channels := (feedOff changer portReset s).channels })) := by
  have hch : (feedOff changer portReset s).channels =
      (mapChans (fun _ ch => feedOffChannel s.globals s.ms ch) s).channels := by
    simp only [feedOff, reportFeedState, modPort_channels, report_channels, mapChans]
  rw [hch]
  simp only [feedOff, reportFeedState, mapChans]

theorem feedOn_of_votes {s : State} (hservice : s.service.vote = true) (henergy : s.energy.vote = true) (changer : Port) :
    feedOn changer s = report .energy none (.feedState true true true changer false)
      (report .service none (.feedState true true true changer false) { s with feedOn := true }) := by
  simp only [feedOn, reportFeedState, hservice, henergy]

/-! ### VOTE -/

theorem doVote_of_off {arg : Word} (h : bits 7 0 arg = 0) (p : Port) (s : State) : doVote p arg s =
    done p .vote [] (if s.feedOn then feedOff p false (setVote p false s) else setVote p false s) := by
  simp only [doVote, h]

theorem doVote_of_on {arg : Word} (h : bits 7 0 arg = 1) (p : Port) (s : State) : doVote p arg s =
    done p .vote []
      (if !s.feedOn && (portOf s (otherPort p)).vote then feedOn p (setVote p true s) else setVote p true s) := by
  simp only [doVote, h, setVote, portOf_modPort_other]

theorem doVote_of_other {arg : Word} (h : 1 < bits 7 0 arg) (p : Port) (s : State) :
    doVote p arg s = refuse p .vote .badArgument s := by
  unfold doVote
  split
  · omega
  · omega
  · rfl

/-- Both votes stand set where a vote is set beside the other. -/
theorem votes_of_setVote {p : Port} {s : State} (h : (portOf s (otherPort p)).vote = true) :
    (setVote p true s).service.vote = true ∧ (setVote p true s).energy.vote = true := by
  cases p with
  | service => exact ⟨rfl, h⟩
  | energy => exact ⟨h, rfl⟩

theorem exec_vote {p : Port} {arg : Word} {s : State} (h : commandDue p .vote [arg] s = true) :
    exec (.vote p arg) s = .next (doVote p arg (commandTaken p s)) :=
  congrArg Host.Outcome.next (atPort_of_due h (doVote p arg))

/-- Settles O41: by the value, the feed and the other vote. -/
theorem voteMovesFeed : Obligations.VoteMovesFeed := by
  unfold Obligations.VoteMovesFeed
  intro p arg s hdue u value voted
  rw [exec_vote hdue]
  refine ⟨fun h => ?_, fun h hstays => ?_, fun h hoff hother => ?_, fun h hoff => ?_, fun h hon => ?_⟩
  · rw [doVote_of_other h]
    rfl
  · have hcond : ¬ (!u.feedOn && (portOf u (otherPort p)).vote) = true := by
      rcases hstays with h0 | h0 <;> simp [h0]
    rw [doVote_of_on h, if_neg hcond]
    rfl
  · intro body
    have hcond : (!u.feedOn && (portOf u (otherPort p)).vote) = true := by simp [hoff, hother]
    obtain ⟨hservice, henergy⟩ := votes_of_setVote hother
    rw [doVote_of_on h, if_pos hcond, feedOn_of_votes hservice henergy]
    rfl
  · rw [doVote_of_off h, if_neg (by simp [u, hoff])]
    rfl
  · intro v body
    refine ⟨feedOff p false v, ?_, feedOff_eq p false v, fun c => ?_⟩
    · rw [doVote_of_off h, if_pos hon]
      rfl
    · rw [chanAt_feedOff, modPort_globals, modPort_ms, chanAt_modPort]
      exact feedOffChannel_spec ..

/-! ### RESET_PORT -/

theorem doResetPort_eq (p : Port) (s : State) : doResetPort p s =
    if s.feedOn then done p .resetPort [statusWord (feedOff p true (portCleared p s)) p] (feedOff p true (portCleared p s))
    else done p .resetPort [statusWord (portCleared p s) p] (portCleared p s) := by
  unfold doResetPort
  cases s.feedOn <;> rfl

theorem portCleared_channels (p : Port) (s : State) : (portCleared p s).channels = s.channels ∧
    (portCleared p s).globals = s.globals ∧ (portCleared p s).ms = s.ms := by cases p <;> exact ⟨rfl, rfl, rfl⟩

theorem exec_resetPort {p : Port} {s : State} (h : commandDue p .resetPort [] s = true) :
    exec (.resetPort p) s = .next (doResetPort p (commandTaken p s)) :=
  congrArg Host.Outcome.next (atPort_of_due h (doResetPort p))

/-- Settles O42: the port cleared, then the feed OFF if it was ON. -/
theorem resetPortReturnsPort : Obligations.ResetPortReturnsPort := by
  unfold Obligations.ResetPortReturnsPort
  intro p s hdue u cleared v
  have hv : portCleared p u = v := by cases p <;> rfl
  rw [exec_resetPort hdue, doResetPort_eq, hv]
  refine ⟨fun hoff => ?_, fun hon => ?_⟩
  · rw [if_neg (by simp [u, hoff])]
    rfl
  · intro body
    refine ⟨feedOff p true v, ?_, feedOff_eq p true v, fun c => ?_⟩
    · rw [if_pos hon]
      rfl
    · obtain ⟨hch, hg, hms⟩ := portCleared_channels p u
      rw [hv] at hch hg hms
      rw [chanAt_feedOff, hg, hms, chanAt_congr hch]
      exact feedOffChannel_spec ..

end Sys2Proof.Machine
end

/-! ## The energy a step leaves in the meters (R41, R47)

`heldEnergies` is what each meter holds, the switch of sampling aside. An operation that writes no channel has a `_channels`
equation; one that writes some keeps what they hold, so that a step is its operations rewritten away one by one. -/

section
namespace Sys2Proof.Machine

/-! ### What the meters hold -/

/-- What each channel's meter holds (R47). -/
def heldEnergies (cs : Vector Channel 24) : Chan → Nat := fun c => heldEnergy cs[c].meter

@[simp] theorem heldEnergy_withSampling (m : Meter) (b : Bool) : heldEnergy { m with sampling := b } = heldEnergy m := by
  simp only [heldEnergy]

/-- Two states whose channels hold alike one by one. -/
theorem heldEnergies_ext {s t : State} (h : ∀ c, heldEnergy (chanAt t c).meter = heldEnergy (chanAt s c).meter) :
    heldEnergies t.channels = heldEnergies s.channels := funext h

@[simp] theorem heldEnergies_modChan {f : Channel → Channel} {c : Chan} {s : State}
    (h : heldEnergy (f (chanAt s c)).meter = heldEnergy (chanAt s c).meter) :
    heldEnergies (modChan c f s).channels = heldEnergies s.channels := by
  refine heldEnergies_ext fun d => ?_
  rw [chanAt_modChan]
  split
  · rename_i hd
    rw [h, hd]
  · rfl

/-- A step that acts on a condition. -/
@[simp] theorem heldEnergies_ite {q : Prop} [Decidable q] {t u : State} (h : heldEnergies t.channels = heldEnergies u.channels) :
    heldEnergies (if q then t else u).channels = heldEnergies u.channels := by
  split
  · exact h
  · rfl

/-! ### Channels whose meter a change leaves -/

@[simp] theorem wakeChannel_meter (ch : Channel) : (wakeChannel ch).meter = ch.meter := by simp only [wakeChannel]
@[simp] theorem feedChannel_meter (ch : Channel) : (feedChannel ch).meter = ch.meter := by simp only [feedChannel]
@[simp] theorem testChannel_meter (band : Nat) (ch : Channel) : (testChannel band ch).meter = ch.meter := by
  simp only [testChannel]
@[simp] theorem resumeChannel_meter (aborted : Bool) (ch : Channel) : (resumeChannel aborted ch).meter = ch.meter := by
  simp only [resumeChannel]
@[simp] theorem requestTest_meter (duration : Nat) (ch : Channel) : (requestTest duration ch).meter = ch.meter := by
  simp only [requestTest]
@[simp] theorem startExchange_meter (t : Nat) (ch : Channel) : (startExchange t ch).meter = ch.meter := by
  simp only [startExchange]
@[simp] theorem takeExchange_meter (inside : Bool) (ch : Channel) : (takeExchange inside ch).meter = ch.meter := by
  simp only [takeExchange]
@[simp] theorem darkResults_meter (cause : StateCause) (ch : Channel) : (darkResults cause ch).meter = ch.meter := by
  simp only [darkResults]
@[simp] theorem feedOffChannel_meter (g : Globals) (now : Nat) (ch : Channel) : (feedOffChannel g now ch).meter = ch.meter := by
  simp only [feedOffChannel, endExchange]
@[simp] theorem configureChannel_meter (cfg : ChanConfig) (t : Nat) (ch : Channel) :
    (configureChannel cfg t ch).meter = ch.meter := by simp only [configureChannel]
@[simp] theorem departChannel_meter (g : Globals) (now : Nat) (ch : Channel) :
    (departChannel g now ch).meter = { ch.meter with sampling := false } := by simp only [departChannel, endExchange]

@[simp] theorem senseCurrent_meter (t current : Nat) (ch : Channel) : (senseCurrent t current ch).meter = ch.meter := by
  unfold senseCurrent
  split <;> rfl

@[simp] theorem countFrame_meter (ch : Channel) : (countFrame ch).meter = ch.meter := by
  unfold countFrame
  split
  · split
    · simp only
      split <;> rfl
    · rfl
  · rfl

/-! ### Records and the probe engine -/

@[simp] theorem reportChan_channels (c : Chan) (b : ReportBody) (s : State) : (reportChan c b s).channels = s.channels :=
  report_channels ..

@[simp] theorem reportOwn_channels (c : Chan) (own : Option ReportBody) (s : State) :
    (reportOwn c own s).channels = s.channels := by cases own <;> simp [reportOwn]

@[simp] theorem reportProbe_channels (r : ProbeRequest) (o : ProbeOutcome) (v : Option Nat) (s : State) :
    (reportProbe r o v s).channels = s.channels := reportChan_channels ..

@[simp] theorem look_channels (s : State) : (look s).channels = s.channels := by
  obtain ⟨q, pr, w, sv, h⟩ := look_frame s
  rw [h]

@[simp] theorem requestLine_channels (c : Chan) (s : State) : (requestLine c s).channels = s.channels := by
  obtain ⟨q, pr, w, sv, h⟩ := requestLine_frame c s
  rw [h]

@[simp] theorem cancelProbe_channels (c : Chan) (s : State) : (cancelProbe c s).channels = s.channels := by
  obtain ⟨q, pr, w, sv, h⟩ := cancelProbe_frame c s
  rw [h]

/-! ### Entries to the unpowered states -/

@[simp] theorem heldEnergies_depart (c : Chan) (s : State) :
    heldEnergies (depart c s).channels = heldEnergies s.channels := by
  unfold depart
  split
  · simp
  · rfl

@[simp] theorem heldEnergies_endTest (c : Chan) (o : TestOutcome) (s : State) :
    heldEnergies (endTest c o s).channels = heldEnergies s.channels := by
  unfold endTest
  split <;> simp

@[simp] theorem heldEnergies_dropMailbox (c : Chan) (s : State) :
    heldEnergies (dropMailbox c s).channels = heldEnergies s.channels := by
  unfold dropMailbox
  split <;> simp

@[simp] theorem heldEnergies_settleUnpowered (c : Chan) (own : Option ReportBody) (o : TestOutcome) (s : State) :
    heldEnergies (settleUnpowered c own o s).channels = heldEnergies s.channels := by
  simp [settleUnpowered, markStale]

@[simp] theorem heldEnergies_enterDark (c : Chan) (cause : StateCause) (own : Option ReportBody) (o : TestOutcome) (s : State) :
    heldEnergies (enterDark c cause own o s).channels = heldEnergies s.channels := by
  unfold enterDark
  simp only
  split <;> simp

@[simp] theorem heldEnergies_enterFaulted (c : Chan) (cause : StateCause) (partner : Option Chan) (s : State) :
    heldEnergies (enterFaulted c cause partner s).channels = heldEnergies s.channels := by
  simp [enterFaulted]

@[simp] theorem heldEnergies_enterRetired (c : Chan) (s : State) :
    heldEnergies (enterRetired c s).channels = heldEnergies s.channels := by
  simp [enterRetired]

/-! ### Outcomes of exchanges and the line exchange units -/

@[simp] theorem heldEnergies_missAction (c : Chan) (s : State) :
    heldEnergies (missAction c s).channels = heldEnergies s.channels := by
  have hattempt : heldEnergies (countAttempt c s).channels = heldEnergies s.channels := by
    unfold countAttempt
    simp only
    split <;> simp
  have hmiss : heldEnergies (countMiss c s).channels = heldEnergies s.channels := by
    unfold countMiss goSilent
    simp only
    split <;> simp
  unfold missAction
  split <;> simp [hattempt, hmiss]

@[simp] theorem heldEnergies_settleMailbox (c : Chan) (o : MailOutcome) (m : Mailbox) (n : Nat) (f : Option StatusFields)
    (s : State) : heldEnergies (settleMailbox c o m n f s).channels = heldEnergies s.channels := by
  simp [settleMailbox]

@[simp] theorem heldEnergies_refuseTest (c : Chan) (a : Answer) (s : State) :
    heldEnergies (refuseTest c a s).channels = heldEnergies s.channels := by
  unfold refuseTest
  split <;> simp

@[simp] theorem heldEnergies_resultAnswer (c : Chan) (a : Answer) (s : State) :
    heldEnergies (resultAnswer c a s).channels = heldEnergies s.channels := by
  unfold resultAnswer
  split <;> simp

@[simp] theorem heldEnergies_fedAnswer (c : Chan) (e : Exchange) (a : Answer) (s : State) :
    heldEnergies (fedAnswer c e a s).channels = heldEnergies s.channels := by
  unfold fedAnswer
  cases e.cmd with
  | keep | wake | resultQuery | query | aux => simp
  | doze =>
    simp only
    split <;> simp
  | beginTest =>
    simp only
    split <;> simp

@[simp] theorem heldEnergies_validAction (c : Chan) (e : Exchange) (a : Answer) (s : State) :
    heldEnergies (validAction c e a s).channels = heldEnergies s.channels := by
  unfold validAction
  split <;> simp [helloAnswer]

@[simp] theorem reportChange_channels (c : Chan) (a : Answer) (frame : Nat) (old : Option StatusRecord) (s : State) :
    (reportChange c a frame old s).channels = s.channels := by
  unfold reportChange
  split <;> simp

@[simp] theorem heldEnergies_exchangeOutcome (c : Chan) (e : Exchange) (o : ExchangeOutcome) (answer : Option Answer)
    (s : State) : heldEnergies (exchangeOutcome c e o answer s).channels = heldEnergies s.channels := by
  unfold exchangeOutcome
  split <;> simp [refreshStatus]

theorem heldEnergies_exchangeStart (c : Chan) (s : State) :
    heldEnergies (exchangeStart c s).channels = heldEnergies s.channels := by
  unfold exchangeStart
  simp only
  split
  · split <;> simp
  · rfl

theorem heldEnergies_downlinkEnd (c : Chan) (baseline : Nat) (s : State) :
    heldEnergies (downlinkEnd c baseline s).channels = heldEnergies s.channels := by
  unfold downlinkEnd
  split
  · split <;> simp [setExchange]
  · rfl

theorem heldEnergies_answerStart (c : Chan) (instant : Fin 1001) (rise : Rise) (s : State) :
    heldEnergies (answerStart c instant rise s).channels = heldEnergies s.channels := by
  unfold answerStart
  simp only
  split
  · split <;> simp [setExchange]
  · rfl

theorem heldEnergies_windowExpiry (c : Chan) (s : State) :
    heldEnergies (windowExpiry c s).channels = heldEnergies s.channels := by
  unfold windowExpiry
  split
  · split <;> simp
  · rfl

theorem heldEnergies_uplinkEnd (c : Chan) (average : Nat) (s : State) :
    heldEnergies (uplinkEnd c average s).channels = heldEnergies s.channels := by
  unfold uplinkEnd
  split
  · split <;> simp
  · rfl

/-! ### The feed switches -/

@[simp] theorem heldEnergies_modSwitch (c : Chan) (f : FeedSwitch → FeedSwitch) (s : State) :
    heldEnergies (modSwitch c f s).channels = heldEnergies s.channels := by simp [modSwitch]

@[simp] theorem heldEnergies_faultFromSwitch (c : Chan) (cause : StateCause) (s : State) :
    heldEnergies (faultFromSwitch c cause s).channels = heldEnergies s.channels := by
  unfold faultFromSwitch
  split <;> simp

theorem heldEnergies_openLoadLost (c : Chan) (s : State) :
    heldEnergies (openLoadLost c s).channels = heldEnergies s.channels := by
  unfold openLoadLost goOpenLoad
  simp only
  split <;> simp

theorem heldEnergies_switchOnComplete (c : Chan) (s : State) :
    heldEnergies (switchOnComplete c s).channels = heldEnergies s.channels := by
  unfold switchOnComplete
  split
  · split <;> simp
  · rfl

theorem heldEnergies_rampEnd (c : Chan) (s : State) : heldEnergies (rampEnd c s).channels = heldEnergies s.channels := by
  unfold rampEnd
  simp only
  split
  · split <;> simp
  · rfl

theorem heldEnergies_chopPeriodStart (c : Chan) (s : State) :
    heldEnergies (chopPeriodStart c s).channels = heldEnergies s.channels := by
  unfold chopPeriodStart
  simp only
  split
  · split <;> simp
  · rfl

theorem heldEnergies_tripAssert (c : Chan) (s : State) :
    heldEnergies (tripAssert c s).channels = heldEnergies s.channels := by
  unfold tripAssert
  simp only
  split
  · split
    · split <;> simp
    · rfl
  · rfl

theorem heldEnergies_overcurrentAssert (c : Chan) (s : State) :
    heldEnergies (overcurrentAssert c s).channels = heldEnergies s.channels := by
  unfold overcurrentAssert
  simp only
  split
  · split <;> simp
  · rfl

theorem heldEnergies_levelCrossing (c : Chan) (current : Nat) (instant : Fin 1001) (s : State) :
    heldEnergies (levelCrossing c current instant s).channels = heldEnergies s.channels := by
  unfold levelCrossing
  simp only
  split <;> simp

/-! ### The probe engine -/

@[simp] theorem heldEnergies_actLine (c : Chan) (o : ProbeOutcome) (s : State) :
    heldEnergies (actLine c o s).channels = heldEnergies s.channels := by
  cases o with
  | short | foreign | openLine | clear | crossed | cancelled | notQueued => simp [actLine]
  | signature =>
    refine heldEnergies_modChan ?_
    simp only
    split <;> rfl

@[simp] theorem heldEnergies_crossChannel (c partner : Chan) (s : State) :
    heldEnergies (crossChannel c partner s).channels = heldEnergies s.channels := by simp [crossChannel]

@[simp] theorem heldEnergies_actPair (c partner : Chan) (crossed : Bool) (s : State) :
    heldEnergies (actPair c partner crossed s).channels = heldEnergies s.channels := by
  unfold actPair
  simp only
  split
  · split <;> simp
  · simp

theorem heldEnergies_probeEndLine (reading : Nat) (s : State) :
    heldEnergies (probeEndLine reading s).channels = heldEnergies s.channels := by
  unfold probeEndLine
  split
  · split <;> simp
  · rfl

theorem heldEnergies_probeEndPair (reading : Nat) (s : State) :
    heldEnergies (probeEndPair reading s).channels = heldEnergies s.channels := by
  unfold probeEndPair
  split
  · split <;> simp
  · rfl

end Sys2Proof.Machine
end

/-! ## Port commands, framing and every step but the timebase's own leave the energy in the meters (R47) -/

section
namespace Sys2Proof.Machine

/-! ### Commands that write no channel -/

@[simp] theorem done_channels (p : Port) (cmd : Cmd) (ws : List Word) (s : State) : (done p cmd ws s).channels = s.channels :=
  reply_channels ..

@[simp] theorem refuse_channels (p : Port) (cmd : Cmd) (o : ReplyCode) (s : State) : (refuse p cmd o s).channels = s.channels :=
  reply_channels ..

@[simp] theorem doneChan_channels (p : Port) (cmd : Cmd) (c : Chan) (s : State) :
    (doneChan p cmd c s).channels = s.channels := done_channels ..

theorem doTake_channels (p : Port) (s : State) : (doTake p s).channels = s.channels := by
  unfold doTake
  split <;> simp

theorem doWatermark_channels (p : Port) (arg : Word) (s : State) : (doWatermark p arg s).channels = s.channels := by
  unfold doWatermark
  simp only
  split <;> simp

theorem doSeek_channels (p : Port) (arg : Word) (s : State) : (doSeek p arg s).channels = s.channels := by
  unfold doSeek
  split
  · split <;> simp
  · simp

@[simp] theorem readWord_channels (p : Port) (s : State) : (readWord p s).2.channels = s.channels := by
  obtain ⟨n, h⟩ := readWord_eq p s
  rw [h, modPort_channels]

@[simp] theorem readWords_channels (p : Port) (n : Nat) (s : State) : (readWords p n s).2.channels = s.channels := by
  induction n generalizing s with
  | zero => rfl
  | succ n ih => exact (ih _).trans (readWord_channels p s)

theorem doRead_channels (p : Port) (arg : Word) (s : State) : (doRead p arg s).channels = s.channels := by
  unfold doRead
  simp only
  split <;> simp

theorem doPost_channels (p : Port) (w1 w2 : Word) (s : State) : (doPost p w1 w2 s).channels = s.channels := by
  unfold doPost
  split
  · simp
  · split
    · simp
    · split
      · simp
      · split <;> simp [appendEdit]

theorem doSetGrant_channels (p : Port) (arg : Word) (s : State) : (doSetGrant p arg s).channels = s.channels := by
  unfold doSetGrant
  simp only
  split
  · split <;> simp
  · simp

theorem doDeposit_channels (p : Port) (arg : Word) (s : State) : (doDeposit p arg s).channels = s.channels := by
  unfold doDeposit
  simp only
  split
  · split
    · rw [done_channels]
      split <;> simp
    · simp
  · simp

theorem doDrain_channels (p : Port) (s : State) : (doDrain p s).channels = s.channels := by
  unfold doDrain
  split <;> simp

/-- A channel command that is refused writes nothing, so what it does at its channel decides. -/
theorem heldEnergies_channelCommand {p : Port} {cmd : Cmd} {arg : Word} {s : State} {act : Chan → State}
    (h : ∀ c, heldEnergies (act c).channels = heldEnergies s.channels) :
    heldEnergies (channelCommand p cmd arg s act).channels = heldEnergies s.channels := by
  unfold channelCommand
  split
  · split
    · exact h _
    · simp
  · simp

theorem heldEnergies_doProbe (p : Port) (arg : Word) (s : State) :
    heldEnergies (doProbe p arg s).channels = heldEnergies s.channels := by
  refine heldEnergies_channelCommand fun c => ?_
  simp only
  split
  · simp
  · split
    · simp
    · split
      · simp
      · split <;> simp [appendProbe]

/-! ### Commands of votes and channels -/

@[simp] theorem heldEnergies_feedOff (changer : Port) (portReset : Bool) (s : State) :
    heldEnergies (feedOff changer portReset s).channels = heldEnergies s.channels :=
  heldEnergies_ext fun c => by rw [chanAt_feedOff, feedOffChannel_meter]

@[simp] theorem feedOn_channels (changer : Port) (s : State) : (feedOn changer s).channels = s.channels := by
  simp [feedOn, reportFeedState]

theorem heldEnergies_doVote (p : Port) (arg : Word) (s : State) :
    heldEnergies (doVote p arg s).channels = heldEnergies s.channels := by
  unfold doVote
  split
  · rw [done_channels]
    simp only
    split <;> simp [setVote]
  · rw [done_channels]
    simp only
    split <;> simp [setVote]
  · simp

theorem heldEnergies_doResetPort (p : Port) (s : State) :
    heldEnergies (doResetPort p s).channels = heldEnergies s.channels := by
  obtain ⟨hch, -, -⟩ := portCleared_channels p s
  rw [doResetPort_eq]
  split <;> simp [hch]

theorem heldEnergies_doWake (p : Port) (arg : Word) (s : State) :
    heldEnergies (doWake p arg s).channels = heldEnergies s.channels := by
  refine heldEnergies_channelCommand fun c => ?_
  simp only
  split <;> simp

theorem heldEnergies_doRetire (p : Port) (arg : Word) (s : State) :
    heldEnergies (doRetire p arg s).channels = heldEnergies s.channels := by
  refine heldEnergies_channelCommand fun c => ?_
  split <;> simp

theorem heldEnergies_doRelease (p : Port) (arg : Word) (s : State) :
    heldEnergies (doRelease p arg s).channels = heldEnergies s.channels := by
  refine heldEnergies_channelCommand fun c => ?_
  split <;> simp

theorem heldEnergies_doClearFault (p : Port) (arg : Word) (s : State) :
    heldEnergies (doClearFault p arg s).channels = heldEnergies s.channels := by
  refine heldEnergies_channelCommand fun c => ?_
  split
  · simp
  · split <;> simp

theorem heldEnergies_doTest (p : Port) (arg : Word) (s : State) :
    heldEnergies (doTest p arg s).channels = heldEnergies s.channels := by
  refine heldEnergies_channelCommand fun c => ?_
  simp only
  split
  · simp
  · split
    · simp
    · split
      · simp
      · split
        all_goals split <;> simp

theorem heldEnergies_doAbortTest (p : Port) (arg : Word) (s : State) :
    heldEnergies (doAbortTest p arg s).channels = heldEnergies s.channels := by
  refine heldEnergies_channelCommand fun c => ?_
  simp only
  split
  · simp
  · split
    · split <;> simp
    · simp
    · simp

theorem heldEnergies_doSend (p : Port) (arg : Word) (s : State) :
    heldEnergies (doSend p arg s).channels = heldEnergies s.channels := by
  refine heldEnergies_channelCommand fun c => ?_
  simp only
  split
  · simp
  · split
    · simp
    · split
      · simp
      · split <;> simp

/-! ### Execution and framing -/

@[simp] theorem heldEnergies_runCommand (cmd : Cmd) (p : Port) (args : List Word) (s : State) :
    heldEnergies (runCommand cmd p args s).channels = heldEnergies s.channels := by
  cases cmd with
  | nop => exact congrArg _ (done_channels ..)
  | status => exact congrArg _ (done_channels ..)
  | seek => exact congrArg _ (doSeek_channels ..)
  | read => exact congrArg _ (doRead_channels ..)
  | take => exact congrArg _ (doTake_channels ..)
  | ack => simp [runCommand, doAck]
  | mask => simp [runCommand, doMask]
  | watermark => exact congrArg _ (doWatermark_channels ..)
  | vote => exact heldEnergies_doVote ..
  | resetPort => exact heldEnergies_doResetPort ..
  | post => exact congrArg _ (doPost_channels ..)
  | cancelEdits => simp [runCommand, doCancelEdits, removeEdits]
  | probe => exact heldEnergies_doProbe ..
  | wake => exact heldEnergies_doWake ..
  | retire => exact heldEnergies_doRetire ..
  | release => exact heldEnergies_doRelease ..
  | clearFault => exact heldEnergies_doClearFault ..
  | test => exact heldEnergies_doTest ..
  | abortTest => exact heldEnergies_doAbortTest ..
  | send => exact heldEnergies_doSend ..
  | setGrant => exact congrArg _ (doSetGrant_channels ..)
  | deposit => exact congrArg _ (doDeposit_channels ..)
  | drain => exact congrArg _ (doDrain_channels ..)

@[simp] theorem refuseUnknown_channels (p : Port) (code : Byte) (s : State) : (refuseUnknown p code s).channels = s.channels :=
  reply_channels ..

@[simp] theorem passWord_channels (t : ServiceTransaction) (f : ServiceTransaction → ServiceTransaction) (s : State) :
    (passWord t f s).channels = s.channels := rfl

theorem heldEnergies_serviceWord (w : Word) (s : State) :
    heldEnergies (serviceWord w s).channels = heldEnergies s.channels := by
  unfold serviceWord
  split
  · rfl
  · split
    · simp
    · split
      · split
        · simp
        · split <;> simp
      · split
        · simp
        · split <;> simp

theorem serviceSelect_channels (s : State) : (serviceSelect s).channels = s.channels := by
  unfold serviceSelect
  split <;> rfl

theorem serviceDeselect_channels (s : State) : (serviceDeselect s).channels = s.channels := by
  unfold serviceDeselect
  split
  · rfl
  · simp only
    split
    · rfl
    · split <;> rfl

@[simp] theorem heldEnergies_joinByte (b : Byte) (s : State) :
    heldEnergies (joinByte b s).channels = heldEnergies s.channels := by
  unfold joinByte
  simp only
  split
  · rfl
  · split
    · rfl
    · split
      · split <;> simp
      · rfl

@[simp] theorem heldEnergies_flushLone (s : State) : heldEnergies (flushLone s).channels = heldEnergies s.channels := by
  unfold flushLone
  split <;> simp

@[simp] theorem countByte_channels (n : Nat) (s : State) : (countByte n s).channels = s.channels := rfl

@[simp] theorem heldEnergies_takeCommandByte (b : Byte) (s : State) :
    heldEnergies (takeCommandByte b s).channels = heldEnergies s.channels := by
  unfold takeCommandByte
  split
  · simp
  · split <;> simp

@[simp] theorem heldEnergies_energyByte (b : Byte) (s : State) :
    heldEnergies (energyByte b s).channels = heldEnergies s.channels := by
  unfold energyByte
  split
  · rfl
  · rfl
  · simp only
    split
    · simp
    · split <;> simp

@[simp] theorem energyStop_channels (s : State) : (energyStop s).channels = s.channels := by
  unfold energyStop
  split
  · simp only
    split <;> rfl
  · rfl
  · rfl

theorem energyAddressed_channels (b : Byte) (s : State) : (energyAddressed b s).channels = s.channels := by
  unfold energyAddressed
  simp only
  split <;> simp

theorem energyReadByte_channels (s : State) : (energyReadByte s).channels = s.channels := by
  unfold energyReadByte
  split
  · rfl
  · rfl
  · split
    · rfl
    · simp only
      split <;> rfl

@[simp] theorem heldEnergies_commandTaken (p : Port) (s : State) :
    heldEnergies (commandTaken p s).channels = heldEnergies s.channels := by
  cases p with
  | service =>
    obtain ⟨tr, sd, h⟩ := commandTaken_service_frame s
    rw [h]
  | energy =>
    unfold commandTaken
    simp only
    split <;> simp

/-! ### Every step but those of reset and the timebase -/

/-- What a step leaves in the meters is what it found there. -/
def EnergyKept (s t : State) : Prop := heldEnergies t.channels = heldEnergies s.channels

theorem energyKept_whenLive {s t : State} (h : EnergyKept s t) : AnswersWith EnergyKept s (whenLive s t) := by
  refine ⟨_, rfl, ?_⟩
  split
  · rfl
  · exact h

theorem energyKept_command (cmd : Cmd) (p : Port) (args : List Word) (s : State) :
    AnswersWith EnergyKept s (.next (atPort p cmd args (runCommand cmd p args) s)) := by
  refine ⟨_, rfl, ?_⟩
  unfold atPort EnergyKept
  split <;> simp

theorem energyKept_unknownCommand (p : Port) (code : Byte) (s : State) :
    AnswersWith EnergyKept s (execUnknownCommand p code s) := by
  refine ⟨_, rfl, ?_⟩
  unfold EnergyKept
  split <;> simp

theorem energyKept_status (p : Port) (s : State) : AnswersWith EnergyKept s (execStatus p s) := by
  unfold execStatus
  split
  · refine ⟨_, rfl, ?_⟩
    unfold EnergyKept statusWrite
    rw [energyStop_channels]
    split <;> simp
  · exact energyKept_command .status p [] s

theorem energyKept_energyByte {q : Prop} [Decidable q] (b : Byte) (s : State) :
    EnergyKept s (if q then energyByte b s else s) := heldEnergies_ite (heldEnergies_energyByte b s)

/-- No step but those of reset and the timebase changes what a meter holds. -/
theorem exec_energyKept {i : Instr} (hi : timebaseStep i = false) (s : State) : AnswersWith EnergyKept s (exec i s) := by
  cases i with
  | deviceReset | resetRelease | sampleEvent | slotEnd | frameOpening | slotStart => cases hi
  | openLoadLost c => exact energyKept_whenLive (heldEnergies_openLoadLost c s)
  | switchOnComplete c => exact energyKept_whenLive (heldEnergies_switchOnComplete c s)
  | rampEnd c => exact energyKept_whenLive (heldEnergies_rampEnd c s)
  | chopPeriodStart c => exact energyKept_whenLive (heldEnergies_chopPeriodStart c s)
  | tripAssert c => exact energyKept_whenLive (heldEnergies_tripAssert c s)
  | overcurrentAssert c => exact energyKept_whenLive (heldEnergies_overcurrentAssert c s)
  | detectorLevelCrossing c current instant => exact energyKept_whenLive (heldEnergies_levelCrossing c current instant s)
  | exchangeStart c => exact energyKept_whenLive (heldEnergies_exchangeStart c s)
  | downlinkEnd c b => exact energyKept_whenLive (heldEnergies_downlinkEnd c b s)
  | answerStart c instant rise => exact energyKept_whenLive (heldEnergies_answerStart c instant rise s)
  | windowExpiry c => exact energyKept_whenLive (heldEnergies_windowExpiry c s)
  | uplinkEnd c average => exact energyKept_whenLive (heldEnergies_uplinkEnd c average s)
  | probeEndLine reading => exact energyKept_whenLive (heldEnergies_probeEndLine reading s)
  | probeEndPair reading => exact energyKept_whenLive (heldEnergies_probeEndPair reading.val s)
  | serviceSelect => exact energyKept_whenLive (congrArg _ (serviceSelect_channels s))
  | serviceDeselect => exact energyKept_whenLive (congrArg _ (serviceDeselect_channels s))
  | serviceWordCompletion w => exact energyKept_whenLive (heldEnergies_serviceWord w s)
  | energyAddressByte b => exact energyKept_whenLive (congrArg _ (energyAddressed_channels b s))
  | energyCommandByte b => exact energyKept_whenLive (energyKept_energyByte b s)
  | energyArgumentByte b => exact energyKept_whenLive (energyKept_energyByte b s)
  | energyReadByte => exact energyKept_whenLive (congrArg _ (energyReadByte_channels s))
  | energyStopCondition => exact energyKept_whenLive (congrArg _ (energyStop_channels s))
  | unknownCommand p code => exact energyKept_unknownCommand p code s
  | status p => exact energyKept_status p s
  | nop p => exact energyKept_command .nop p [] s
  | seek p a => exact energyKept_command .seek p [a] s
  | read p a => exact energyKept_command .read p [a] s
  | take p => exact energyKept_command .take p [] s
  | ack p a => exact energyKept_command .ack p [a] s
  | mask p a => exact energyKept_command .mask p [a] s
  | watermark p a => exact energyKept_command .watermark p [a] s
  | vote p a => exact energyKept_command .vote p [a] s
  | resetPort p => exact energyKept_command .resetPort p [] s
  | post p a b => exact energyKept_command .post p [a, b] s
  | cancelEdits p => exact energyKept_command .cancelEdits p [] s
  | probe p a => exact energyKept_command .probe p [a] s
  | wake p a => exact energyKept_command .wake p [a] s
  | retire p a => exact energyKept_command .retire p [a] s
  | release p a => exact energyKept_command .release p [a] s
  | clearFault p a => exact energyKept_command .clearFault p [a] s
  | test p a => exact energyKept_command .test p [a] s
  | abortTest p a => exact energyKept_command .abortTest p [a] s
  | send p a => exact energyKept_command .send p [a] s
  | setGrant p a => exact energyKept_command .setGrant p [a] s
  | deposit p a => exact energyKept_command .deposit p [a] s
  | drain p => exact energyKept_command .drain p [] s

end Sys2Proof.Machine
end

/-! ## The energy account: a sample, a charge, the law of the cumulative total (R44 to R47, R54) -/

section
namespace Sys2Proof.Machine

/-! ### A sample -/

/-- Settles O11: a product and its residue are at most 6,138,099. -/
theorem sampleArithmeticIsExact : Obligations.SampleArithmeticIsExact := by
  unfold Obligations.SampleArithmeticIsExact
  intro v i m hv hi hres n
  have hproduct : v * i ≤ 6000 * 1023 := Nat.mul_le_mul hv hi
  have hacc : n.acc = m.acc + (v * i + m.residue) / 100 := rfl
  have hresidue : n.residue = (v * i + m.residue) % 100 := rfl
  exact ⟨hresidue, hacc, by omega, by omega, by omega, rfl, rfl, rfl⟩

/-- A sample adds its product to what the meter holds (R44). -/
theorem heldEnergy_addSample (v i : Nat) (m : Meter) : heldEnergy (addSample v i m) = heldEnergy m + v * i := by
  simp only [heldEnergy, addSample]
  omega

theorem heldEnergy_sampleChannel (t v : Nat) (r : Reading) (ch : Channel) :
    heldEnergy (sampleChannel t v r ch).meter =
      heldEnergy ch.meter + if ch.meter.sampling then v * min r.current 1023 else 0 := by
  cases hs : ch.meter.sampling
  · rw [sampleChannel_of_idle hs]
    rfl
  · rw [(sampleChannel_metered hs).1, heldEnergy_addSample]
    rfl

/-! ### A charge -/

/-- RESERVE_LOW is entered where a charge takes the reserve below the alarm level (R54). -/
theorem charge_energy (c : Chan) (p : Bool) (e : Nat) (s : State) : (charge c p e s).energy =
    if s.alarmLevel * 1000 ≤ s.reserve ∧ s.reserve - chargeReserve s p e < s.alarmLevel * 1000 then
      enterRecord 16 { frame := s.frame, slot := s.slotIndex, afterLoss := false, chan := some c,
                       body := .reserveLow (s.reserve - chargeReserve s p e) s.alarmLevel } s.energy
    else s.energy := by
  have hcross : (!belowAlarm s s.reserve && belowAlarm s (s.reserve - chargeReserve s p e)) = true ↔
      s.alarmLevel * 1000 ≤ s.reserve ∧ s.reserve - chargeReserve s p e < s.alarmLevel * 1000 := by simp [belowAlarm]
  unfold charge
  simp only [hcross]
  split <;> rfl

/-- Settles O10: the three parts of the charge, and no tally saturates. -/
theorem chargeConservesEnergy : Obligations.ChargeConservesEnergy := by
  unfold Obligations.ChargeConservesEnergy
  intro c p e s t a b hspent hdrawn hoverdraw
  obtain ⟨en, ht⟩ := charge_account c p e s
  obtain ⟨hframe, hreserve, hparts⟩ := charge_parts s p e
  have henergy : t.energy = _ := charge_energy c p e s
  have hfr : t.grant.fr = s.grant.fr - chargeFrame s e := congrArg (·.grant.fr) ht
  have hrp : t.reserve = s.reserve - chargeReserve s p e := congrArg State.reserve ht
  have ha : a = chargeFrame s e := by omega
  have hb : b = chargeReserve s p e := by omega
  have ho : e - a - b = chargeOverdraw s p e := by omega
  have htallies : t.tallies = { s.tallies with
      spent := s.tallies.spent + a, drawn := s.tallies.drawn + b, overdraw := s.tallies.overdraw + (e - a - b) } := by
    rw [ho, ha, hb, ← tallyAdd_of_le (t := s.tallies.spent) (n := chargeFrame s e) (by omega),
      ← tallyAdd_of_le (t := s.tallies.drawn) (n := chargeReserve s p e) (by omega),
      ← tallyAdd_of_le (t := s.tallies.overdraw) (n := chargeOverdraw s p e) (by omega)]
    exact congrArg State.tallies ht
  rw [← hrp] at henergy
  refine ⟨?_, by omega, by omega, fun hp => ?_, fun hp => ?_, htallies, ?_, fun h => ?_, fun h => ?_⟩
  · rw [hfr]
    exact Nat.sub_add_cancel hframe
  · rw [hrp, hp]
    rfl
  · rw [hb, ha, hp]
    rfl
  · simp only [t, ht]
  · rw [henergy, if_pos h]
  · rw [henergy, if_neg h]

/-! ### The fold of a slot energy -/

/-- A fold that does not saturate keeps what the meter holds, and did not find it saturated (R47). -/
theorem heldEnergy_foldMeter {m : Meter} (h : (foldMeter m).totalMJ < 4294967295) :
    m.totalMJ < 4294967295 ∧ heldEnergy (foldMeter m) = heldEnergy m := by
  simp only [foldMeter, heldEnergy, wordMax] at h ⊢
  omega

/-- Closing entries keeps what a meter holds, where its total has not saturated in the end. -/
theorem heldEnergy_closeEntries (l : List Entry) (s : State) (c : Chan)
    (h : (chanAt (l.foldl closeEntry s) c).meter.totalMJ < 4294967295) :
    (chanAt s c).meter.totalMJ < 4294967295 ∧
      heldEnergy (chanAt (l.foldl closeEntry s) c).meter = heldEnergy (chanAt s c).meter := by
  induction l generalizing s with
  | nil => exact ⟨h, rfl⟩
  | cons e l ih =>
    obtain ⟨hone, hrest⟩ := ih (closeEntry s e) h
    rw [List.foldl_cons, hrest]
    rw [chanAt_closeEntry] at hone ⊢
    split at hone
    · rename_i hc
      rw [if_pos hc]
      exact heldEnergy_foldMeter hone
    · rename_i hc
      rw [if_neg hc]
      exact ⟨hone, rfl⟩

theorem heldEnergy_slotEnd {s : State} {c : Chan} (h : (chanAt (slotEnd s) c).meter.totalMJ < 4294967295) :
    heldEnergy (chanAt (slotEnd s) c).meter = heldEnergy (chanAt s c).meter := by
  rw [chanAt_slotEnd] at h ⊢
  exact (heldEnergy_closeEntries s.admitted s c h).2

/-! ### The other steps of the timebase -/

theorem heldEnergy_sampleEvent (bus : Nat) (readings : Vector Reading 24) (s : State) (c : Chan) :
    heldEnergy (chanAt (sampleEvent bus readings s) c).meter = heldEnergy (chanAt s c).meter +
      if (chanAt s c).meter.sampling then min bus 6000 * min readings[c].current 1023 else 0 := by
  rw [chanAt_sampleEvent, heldEnergy_sampleChannel]

theorem energyKept_frameOpening (s : State) : EnergyKept s (frameOpening s) := by
  refine heldEnergies_ext fun c => ?_
  rw [chanAt_frameOpening, countFrame_meter]
  refine List.foldlRecOn s.edits applyEdit (motive := fun u => heldEnergy (chanAt u c).meter = heldEnergy (chanAt s c).meter)
    rfl fun u hu e _ => ?_
  rcases chanAt_applyEdit u e c with heq | ⟨cfg, t, -, heq⟩
  · rw [heq, hu]
  · rw [heq, configureChannel_meter, hu]

theorem heldEnergy_slotStartChannel (g : Globals) (now len : Nat) (listed exchange : Bool) (ch : Channel) :
    heldEnergy (slotStartChannel g now len listed exchange ch).meter = heldEnergy ch.meter := by
  cases listed
  · rw [slotStartChannel_of_unlisted, heldEnergy_withSampling]
  · rw [slotStartChannel_of_listed, heldEnergy_withSampling]

theorem energyKept_beginSlot (s : State) : EnergyKept s (beginSlot s) := by
  have hadmitted : EnergyKept s (slotAdmitted s) := heldEnergies_ext fun c => by
    obtain ⟨n, h, -⟩ := chanAt_countSheds_range (slotBudget s).shed (slotBase s) c
    rw [chanAt_slotAdmitted, heldEnergy_slotStartChannel, h, chanAt_slotBase]
  rw [beginSlot_eq]
  split
  · exact (congrArg _ (look_channels _)).trans hadmitted
  · exact hadmitted

/-! ### The law -/

/-- What a channel's meter holds after a step that samples nothing there. -/
theorem EnergyKept.grown {s t : State} (h : EnergyKept s t) {i : Instr} {c : Chan} (hi : sampledBy i s c = 0) :
    heldEnergy (chanAt t c).meter = heldEnergy (chanAt s c).meter + sampledBy i s c := by
  rw [hi]
  exact congrFun h c

theorem sampledBy_of_ne {i : Instr} (h : ∀ bus readings, i ≠ .sampleEvent bus readings) (s : State) (c : Chan) :
    sampledBy i s c = 0 := by
  unfold sampledBy
  split
  · exact absurd rfl (h _ _)
  · rfl

/-- A sample event adds its product where it is taken and the channel is sampling (R43, R44). -/
theorem exec_sampleEvent_heldEnergy {bus : Nat} {readings : Vector Reading 24} {s t : State} (c : Chan)
    (h : exec (.sampleEvent bus readings) s = .next t) :
    heldEnergy (chanAt t c).meter = heldEnergy (chanAt s c).meter + sampledBy (.sampleEvent bus readings) s c := by
  cases hr : s.inReset
  · cases hready : sampleReady s
    · rw [exec_sampleEvent_of_not_ready hready] at h
      cases h
      simp [sampledBy, hready]
    · rw [exec_sampleEvent hr hready] at h
      cases h
      simp [sampledBy, hr, hready, heldEnergy_sampleEvent]
  · rw [exec_of_inReset hr (by simp) (by simp)] at h
    cases h
    simp [sampledBy, hr]

/-- Settles O12: the sample event adds its product, the slot end folds it, and no other step touches what a meter holds. -/
theorem energyIsNeverLost : Obligations.EnergyIsNeverLost := by
  unfold Obligations.EnergyIsNeverLost
  intro i s t c hreset h htotal
  have hrefl : EnergyKept s s := rfl
  cases hi : timebaseStep i with
  | false => exact ((exec_energyKept hi s).elim h).grown (sampledBy_of_ne (fun _ _ h0 => by subst h0; cases hi) s c)
  | true =>
    cases i with
    | deviceReset => exact absurd rfl hreset
    | sampleEvent bus readings => exact exec_sampleEvent_heldEnergy c h
    | resetRelease adr1 adr0 =>
      refine EnergyKept.grown (i := .resetRelease adr1 adr0) ?_ rfl
      cases h
      split
      · exact energyKept_beginSlot { s with inReset := false, strap1 := adr1, strap0 := adr0 }
      · exact hrefl
    | slotEnd =>
      exact of_whenLive_ready (I := fun u => (chanAt u c).meter.totalMJ < 4294967295 →
        heldEnergy (chanAt u c).meter = heldEnergy (chanAt s c).meter) (fun _ => rfl) (fun _ _ => heldEnergy_slotEnd) h htotal
    | frameOpening =>
      exact (of_whenLive_ready (I := EnergyKept s) hrefl (fun _ _ => energyKept_frameOpening s) h).grown
        (i := .frameOpening) rfl
    | slotStart =>
      refine EnergyKept.grown (i := .slotStart) (of_whenLive_ready (I := EnergyKept s) hrefl (fun _ hready => ?_) h) rfl
      rw [slotStart_eq hready]
      exact energyKept_beginSlot { s with slotIndex := startedIndex s }
    | _ => cases hi

end Sys2Proof.Machine
end

/-! ## The commands of the energy account (R49, R52 to R54) and the records of the table window (R168, R169, chapter 12.4) -/

section
namespace Sys2Proof.Machine

/-! ### SET_GRANT, DEPOSIT, DRAIN -/

theorem exec_setGrant {p : Port} {arg : Word} {s : State} (h : commandDue p .setGrant [arg] s = true) :
    exec (.setGrant p arg) s = .next (doSetGrant p arg (commandTaken p s)) :=
  congrArg Host.Outcome.next (atPort_of_due h (doSetGrant p arg))

theorem exec_deposit {p : Port} {arg : Word} {s : State} (h : commandDue p .deposit [arg] s = true) :
    exec (.deposit p arg) s = .next (doDeposit p arg (commandTaken p s)) :=
  congrArg Host.Outcome.next (atPort_of_due h (doDeposit p arg))

theorem exec_drain {p : Port} {s : State} (h : commandDue p .drain [] s = true) :
    exec (.drain p) s = .next (doDrain p (commandTaken p s)) :=
  congrArg Host.Outcome.next (atPort_of_due h (doDrain p))

theorem doSetGrant_of_le {arg : Word} (h : bits 23 0 arg ≤ 1000000) (s : State) : doSetGrant .energy arg s =
    reply .energy 0x20 .done [] { s with grant := { s.grant with
      pending := bits 23 0 arg, unlimited := decide (bits 31 24 arg = 0), life := bits 31 24 arg, expiryReported := false } } :=
  if_pos h

theorem doSetGrant_of_gt {arg : Word} (h : 1000000 < bits 23 0 arg) (s : State) :
    doSetGrant .energy arg s = reply .energy 0x20 .badArgument [] s := if_neg (Nat.not_le.2 h)

/-- Settles O49: by the size of the grant. -/
theorem setGrantSetsPending : Obligations.SetGrantSetsPending := by
  unfold Obligations.SetGrantSetsPending
  refine ⟨fun arg s hdue => exec_setGrant hdue, fun arg s hdue => ?_⟩
  intro u life grant
  rw [exec_setGrant hdue]
  exact ⟨fun h => congrArg _ (doSetGrant_of_le h u), fun h => congrArg _ (doSetGrant_of_gt h u)⟩

theorem bits_whole (w : Word) : bits 31 0 w = w.toNat := by simp [bits]

/-- A deposit within its bound: the reserve rises to its cap at most, with RESERVE_OK where it crosses the alarm level. -/
theorem doDeposit_of_le {arg : Word} (h : arg.toNat ≤ 4000000) {s : State} {rp : Nat}
    (hrp : rp = min 4000000000 (s.reserve + arg.toNat * 1000)) : doDeposit .energy arg s =
    reply .energy 0x21 .done [BitVec.ofNat 32 rp]
      (if s.reserve < s.alarmLevel * 1000 ∧ s.alarmLevel * 1000 ≤ rp then
        report .energy none (.reserveOk rp s.alarmLevel) { s with reserve := rp } else { s with reserve := rp }) := by
  have hcross : (belowAlarm s s.reserve && !belowAlarm s rp) = true ↔
      s.reserve < s.alarmLevel * 1000 ∧ s.alarmLevel * 1000 ≤ rp := by simp [belowAlarm]
  have hn : bits 31 0 arg ≤ depositCap := (bits_whole arg).symm ▸ h
  have hcap : min reserveCap (s.reserve + bits 31 0 arg * 1000) = rp := by rw [bits_whole, hrp]; rfl
  have hallowed : Cmd.permitted .deposit .energy = true := rfl
  simp only [doDeposit, hallowed, if_true, if_pos hn, hcap, hcross, done, wordOf, List.sum_singleton]
  rfl

theorem doDeposit_of_gt {arg : Word} (h : 4000000 < arg.toNat) (s : State) :
    doDeposit .energy arg s = reply .energy 0x21 .badArgument [] s :=
  if_neg (Nat.not_le.2 (bits_whole arg ▸ h))

/-- Settles O50: by the size of the deposit, and by whether it crosses the alarm level. -/
theorem depositRaisesReserve : Obligations.DepositRaisesReserve := by
  unfold Obligations.DepositRaisesReserve
  refine ⟨fun arg s hdue => exec_deposit hdue, fun arg s hdue => ?_⟩
  intro u rp crosses answer
  rw [exec_deposit hdue]
  refine ⟨fun h hno => ?_, fun h hyes => ?_, fun h => congrArg _ (doDeposit_of_gt h u)⟩
  · rw [doDeposit_of_le (s := u) h rfl, if_neg hno]
  · rw [doDeposit_of_le (s := u) h rfl, if_pos hyes]
    rfl

/-- Settles O51: DRAIN asks for its right alone. -/
theorem drainEmptiesReserve : Obligations.DrainEmptiesReserve := by
  unfold Obligations.DrainEmptiesReserve
  refine ⟨fun s hdue => ?_, fun s hdue => exec_drain hdue⟩
  rw [exec_drain hdue]
  simp [doDrain, Cmd.permitted, done, wordOf, Cmd.code]

/-! ### One record read word by word -/

/-- The first word of a record: the record is latched as it stands, and the pointer moves on (R169, step 1). -/
theorem readWord_of_first {p : Port} {s : State} (h : (portOf s p).pointer.offset = 0) :
    (readWord p s).1 = (recordOf s (portOf s p).pointer.table (portOf s p).pointer.index).getD 0 0 ∧
      portOf (readWord p s).2 p = { portOf s p with
        latch := some (recordOf s (portOf s p).pointer.table (portOf s p).pointer.index)
        pointer := stepPointer (portOf s p).pointer } := by
  by_cases ht : (portOf s p).pointer.table = .channel
  · cases p <;> simp_all [readWord, latchRecord, portOf, modPort]
  · cases p <;> simp_all [readWord, latchRecord, portOf, modPort]

/-- A later word of a record comes from the latch (R169, steps 2 and 3). -/
theorem readWord_of_latched {p : Port} {s : State} {ws : List Word} (h : (portOf s p).pointer.offset ≠ 0)
    (hl : (portOf s p).latch = some ws) : (readWord p s).1 = ws.getD (portOf s p).pointer.offset 0 ∧
      portOf (readWord p s).2 p = { portOf s p with pointer := stepPointer (portOf s p).pointer } := by
  simp [readWord, latchRecord, h, hl]

/-- The record after this one. -/
def nextRecord (q : Pointer) : Pointer := { q with offset := 0, index := stepIndex q.table q.dir q.index }

theorem stepPointer_inside {q : Pointer} (h : q.offset + 1 < recordWords q.table) :
    stepPointer q = { q with offset := q.offset + 1 } := if_pos h

theorem stepPointer_last {q : Pointer} (h : q.offset + 1 = recordWords q.table) : stepPointer q = nextRecord q :=
  if_neg (Nat.not_lt.2 h.ge)

theorem readWords_succ (p : Port) (n : Nat) (s : State) : readWords p (n + 1) s =
    ((readWord p s).1 :: (readWords p n (readWord p s).2).1, (readWords p n (readWord p s).2).2) := rfl

/-- From inside a latched record, the words left of it come out and the pointer moves to the next. -/
theorem readWords_of_latched {p : Port} {ws : List Word} (n : Nat) {s : State} {q : Pointer}
    (hq : (portOf s p).pointer = q) (hl : (portOf s p).latch = some ws) (hk : q.offset ≠ 0)
    (hn : q.offset + (n + 1) = recordWords q.table) (hw : ws.length = recordWords q.table) :
    (readWords p (n + 1) s).1 = ws.drop q.offset ∧ (portOf (readWords p (n + 1) s).2 p).pointer = nextRecord q := by
  have hlt : q.offset < ws.length := by omega
  induction n generalizing s q with
  | zero =>
    subst hq
    obtain ⟨hword, hport⟩ := readWord_of_latched hk hl
    refine ⟨?_, ?_⟩
    · rw [readWords_succ, hword, List.drop_eq_getElem_cons hlt, List.getD_eq_getElem _ _ hlt,
        List.drop_of_length_le (by omega)]
      rfl
    · rw [readWords_succ]
      exact (congrArg PortState.pointer hport).trans (stepPointer_last hn)
  | succ n ih =>
    subst hq
    obtain ⟨hword, hport⟩ := readWord_of_latched hk hl
    rw [stepPointer_inside (by omega)] at hport
    obtain ⟨hrest, hpointer⟩ := ih (s := (readWord p s).2) (congrArg PortState.pointer hport)
      ((congrArg PortState.latch hport).trans hl) (Nat.succ_ne_zero _) (by simp only; omega) hw (by simp only; omega)
    rw [readWords_succ, hrest, hpointer, hword, List.drop_eq_getElem_cons hlt, List.getD_eq_getElem _ _ hlt]
    exact ⟨rfl, rfl⟩

/-- A record read whole from its first word (R169). -/
theorem readWords_record {p : Port} {s : State} {q : Pointer} (hq : (portOf s p).pointer = q) (hk : q.offset = 0) :
    (readWords p (recordWords q.table) s).1 = recordOf s q.table q.index ∧
      (portOf (readWords p (recordWords q.table) s).2 p).pointer = nextRecord q := by
  subst hq
  obtain ⟨hword, hport⟩ := readWord_of_first hk
  have hlen := recordOf_length s (portOf s p).pointer.table (portOf s p).pointer.index
  generalize recordOf s (portOf s p).pointer.table (portOf s p).pointer.index = ws at hword hport hlen ⊢
  obtain ⟨n, hn⟩ := Nat.exists_eq_add_one_of_ne_zero (recordWords_pos (portOf s p).pointer.table).ne'
  rw [hn] at hlen ⊢
  obtain ⟨w, rest, rfl⟩ := List.exists_cons_of_length_eq_add_one hlen
  rw [readWords_succ, hword]
  cases n with
  | zero =>
    rw [stepPointer_last (by omega)] at hport
    obtain rfl : rest = [] := List.length_eq_zero_iff.1 (Nat.succ_inj.1 hlen)
    exact ⟨rfl, congrArg PortState.pointer hport⟩
  | succ n =>
    rw [stepPointer_inside (by omega)] at hport
    obtain ⟨hrest, hpointer⟩ := readWords_of_latched n (congrArg PortState.pointer hport)
      (congrArg PortState.latch hport) (Nat.succ_ne_zero _) (by simp only; omega) (by simp only; omega)
    rw [hrest, hpointer, hk]
    exact ⟨rfl, rfl⟩

/-! ### What each record shows -/

/-- Settles O38: a READ of one record word by word, and each record by its fields. -/
theorem readReturnsWholeRecord : Obligations.ReadReturnsWholeRecord := by
  unfold Obligations.ReadReturnsWholeRecord
  intro fld bit word
  refine ⟨fun p s hk => readWords_record rfl hk, fun s r => ?_, fun s c => ?_, fun s i => rfl, fun s i => ?_, rfl, rfl, rfl, rfl,
    rfl, rfl, rfl, rfl, rfl⟩
  · intro row member
    have hrow : rowAt s (Fin.ofNat 32 r.val) = row := by rw [Fin.ofNat_val_eq_self]
    simp only [recordOf, hrow]
    rfl
  · intro x cfg
    refine ⟨Config.unstatedField s.freeCount, ?_⟩
    have hx : chanAt s (Fin.ofNat 24 c.val) = x := by rw [Fin.ofNat_val_eq_self]
    simp only [recordOf, hx]
    rfl
  · cases h : s.probeQueue[i]? <;> simp only [recordOf, h] <;> rfl

end Sys2Proof.Machine
end

/-! ## The steps a switch takes by its own timing (R67, R70, R71, R74) -/

section
namespace Sys2Proof.Machine

theorem whenLive_of_live {s : State} (h : s.inReset = false) (t : State) : whenLive s t = .next t := by simp [whenLive, h]

theorem modSwitch_eq (c : Chan) (f : FeedSwitch → FeedSwitch) (s : State) :
    modSwitch c f s = setChan c { chanAt s c with sw := f (chanAt s c).sw } s := rfl

/-! ### What each step makes of a switch -/

theorem adaptedCode_eq_adaptedByTable (g : Globals) (peak code : Nat) : adaptedCode g peak code = adaptedByTable g peak code := by
  simp only [adaptedCode, adaptedByTable, Nat.zero_max]

theorem completeSwitch_of_open {sw : FeedSwitch} {o : SwitchOn} (ho : sw.switchOn = some o) (hc : o.completed = false)
    (g : Globals) : completeSwitch g sw = { sw with
      lastPeak := o.peak
      rampCode := if o.adapt = false then sw.rampCode else adaptedByTable g o.peak sw.rampCode
      switchOn := some { o with completed := true } } := by
  cases ha : o.adapt <;> simp [completeSwitch, ho, hc, ha, adaptedCode_eq_adaptedByTable]

/-- The trip count, trip seen and the new period at a chop period start (R74). -/
def newPeriod (g : Globals) (o : SwitchOn) (sw : FeedSwitch) : FeedSwitch :=
  { sw with
    tripCount := if o.tripSeen then sw.tripCount else 0
    switchOn := some { o with tripSeen := false, chopStart := nextChop o, chopLength := chopPeriod g.chopCode } }

theorem startChop_of_not_chopOff {sw : FeedSwitch} (h : sw.state ≠ .chopOff) (g : Globals) (cfg : ChanConfig) (now : Nat)
    (o : SwitchOn) : startChop g cfg now o sw = newPeriod g o sw := if_neg h

/-- Reclosure from CHOP_OFF, with the detectors armed (R73, R74, R77). -/
theorem startChop_of_chopOff {sw : FeedSwitch} (h : sw.state = .chopOff) (g : Globals) (cfg : ChanConfig) (now : Nat)
    (o : SwitchOn) : startChop g cfg now o sw =
      { armDetectors cfg (us (nextChop o)) (newPeriod g o sw) with
        state := .on, closedMs := sw.closedMs || decide (nextChop o ≤ now) } := if_pos h

/-! ### The steps -/

theorem switchOnComplete_of_due {c : Chan} {s : State} {o : SwitchOn} (ho : (chanAt s c).sw.switchOn = some o)
    (hnow : o.completion ≤ s.ms) (ht : timely (us o.completion) s = true) :
    switchOnComplete c s = modSwitch c (completeSwitch s.globals) s := by simp [switchOnComplete, ho, hnow, ht]

theorem rampEnd_of_due {c : Chan} {s : State} {o : SwitchOn} (ho : (chanAt s c).sw.switchOn = some o)
    (hramp : (chanAt s c).sw.state = .ramping) (ht : timely (us o.rampEnd) s = true) :
    rampEnd c s = modSwitch c (fun sw => { sw with state := .on }) s := by simp [rampEnd, ho, hramp, ht]

theorem rampEnd_of_chopOff {c : Chan} {s : State} (hchop : (chanAt s c).sw.state = .chopOff) : rampEnd c s = s := by
  cases ho : (chanAt s c).sw.switchOn <;> simp [rampEnd, ho, hchop]

theorem chopPeriodStart_of_due {c : Chan} {s : State} {o : SwitchOn} (ho : (chanAt s c).sw.switchOn = some o)
    (ht : timely (us (nextChop o)) s = true) :
    chopPeriodStart c s = modSwitch c (startChop s.globals (chanAt s c).cfg s.ms o) s := by simp [chopPeriodStart, ho, ht]

/-- Settles O20: the three steps, a chop period start by whether the switch stands in CHOP_OFF. -/
theorem switchTimingSteps : Obligations.SwitchTimingSteps := by
  unfold Obligations.SwitchTimingSteps
  intro c s o hr ho x code
  refine ⟨fun hc hnow ht => ?_, fun hramp ht => ?_, fun hchop => ?_, fun ht => ?_⟩
  · calc exec (.switchOnComplete c) s
        = .next (switchOnComplete c s) := whenLive_of_live hr _
      _ = .next (modSwitch c (completeSwitch s.globals) s) := by rw [switchOnComplete_of_due ho hnow ht]
      _ = _ := by
        rw [modSwitch_eq, completeSwitch_of_open ho hc]
        rfl
  · calc exec (.rampEnd c) s
        = .next (rampEnd c s) := whenLive_of_live hr _
      _ = _ := by
        rw [rampEnd_of_due ho hramp ht]
        rfl
  · calc exec (.rampEnd c) s
        = .next (rampEnd c s) := whenLive_of_live hr _
      _ = .next s := by rw [rampEnd_of_chopOff hchop]
  · intro period sw
    have hexec : exec (.chopPeriodStart c) s = .next (modSwitch c (startChop s.globals x.cfg s.ms o) s) :=
      (whenLive_of_live hr _).trans (congrArg _ (chopPeriodStart_of_due ho ht))
    have hsw : newPeriod s.globals o x.sw = sw := rfl
    refine ⟨fun hclosed => ?_, fun hchop => ?_⟩
    · rw [hexec, modSwitch_eq, startChop_of_not_chopOff hclosed, hsw]
    · rw [hexec, modSwitch_eq, startChop_of_chopOff hchop, hsw]
      rfl

end Sys2Proof.Machine
end

/-! ## The detectors and open load (R73, R75 to R77, R80, R93) -/

section
namespace Sys2Proof.Machine

/-! ### What a detector step makes of a channel -/

theorem armed_iff (sw : FeedSwitch) : armed sw = true ↔ sw.state = .ramping ∨ sw.state = .on := by simp [armed_eq]

/-- Armed detectors run their timers by their levels (R73, R77). -/
theorem senseCurrent_of_armed {ch : Channel} (h : armed ch.sw = true) (t current : Nat) :
    senseCurrent t current ch = { ch with sw := { ch.sw with
      sensed := current
      tripTimer := if tripLevelMA ch.cfg.tripLevel < current then some (ch.sw.tripTimer.getD t) else none
      ocTimer := if 800 < current then some (ch.sw.ocTimer.getD t) else none } } := if_pos h

theorem senseCurrent_of_disarmed {ch : Channel} (h : ¬ armed ch.sw = true) (t current : Nat) :
    senseCurrent t current ch = { ch with sw := { ch.sw with sensed := current } } := if_neg h

theorem tripSwitch_tripCount (t : Nat) (o : SwitchOn) (sw : FeedSwitch) :
    (tripSwitch t o sw).tripCount = min 8 (sw.tripCount + 1) := rfl

/-! ### The steps -/

theorem levelCrossing_of_timely {s : State} {instant : Fin 1001} (ht : timely (us s.ms + instant.val) s = true) (c : Chan)
    (current : Nat) : levelCrossing c current instant s = modChan c (senseCurrent (us s.ms + instant.val) current) s :=
  if_pos ht

theorem faultFromSwitch_of_powered {c : Chan} {s : State} (h : powered (chanAt s c).life = true) (cause : StateCause) :
    faultFromSwitch c cause s = enterFaulted c cause none s := if_pos h

/-- A trip that is due (R75), and what follows from the count it leaves (R76). -/
theorem tripAssert_of_due {c : Chan} {s : State} {o : SwitchOn} {d : Nat} (ho : (chanAt s c).sw.switchOn = some o)
    (hd : tripDeadline (chanAt s c) = some d) (harmed : armed (chanAt s c).sw = true) (ht : timely d s = true) :
    tripAssert c s =
      if 8 ≤ min 8 ((chanAt s c).sw.tripCount + 1) then faultFromSwitch c .limit (modSwitch c (tripSwitch d o) s)
      else modSwitch c (tripSwitch d o) s := by
  have hcount : (chanAt (modSwitch c (tripSwitch d o) s) c).sw.tripCount = min 8 ((chanAt s c).sw.tripCount + 1) := by
    rw [modSwitch_eq, chanAt_setChan_self, tripSwitch_tripCount]
  simp only [tripAssert, ho, hd, harmed, ht, Bool.and_self, if_true, hcount, tripLimit]

theorem overcurrentAssert_of_due {c : Chan} {s : State} {d : Nat} (hd : ocDeadline (chanAt s c) = some d)
    (harmed : armed (chanAt s c).sw = true) (ht : timely d s = true) :
    overcurrentAssert c s = faultFromSwitch c .overcurrent s := by simp [overcurrentAssert, hd, harmed, ht]

theorem openLoadLost_of_fed {c : Chan} {s : State} (hdue : (chanAt s c).lostDue = true) (hlife : (chanAt s c).life = .fed) :
    openLoadLost c s =
      enterDark c .openLoad (some (.lost .openLoad ((chanAt s c).status.map StatusRecord.lastAnswer))) .lost s := by
  simp [openLoadLost, goOpenLoad, lastAnswerOf, hdue, hlife]

theorem openLoadLost_of_resuming {c : Chan} {s : State} (hdue : (chanAt s c).lostDue = true)
    (hlife : (chanAt s c).life = .resuming) : openLoadLost c s = enterDark c .openLoad none .lost s := by
  simp [openLoadLost, goOpenLoad, hdue, hlife]

/-- Settles O21: the steps one after another, a trip by the count it leaves. -/
theorem detectorsAct : Obligations.DetectorsAct := by
  unfold Obligations.DetectorsAct
  intro c s hr x closed tripUs ocUs level
  have harmed : armed x.sw = true ↔ closed := armed_iff x.sw
  refine ⟨fun current instant ht => ?_, fun o since ho hsince hclosed ht => ?_, fun since hsince hclosed ht hpow => ?_,
    fun hdue hlife => ?_, fun hdue hlife => ?_⟩
  · intro now
    have hexec : exec (.detectorLevelCrossing c current instant) s = .next (modChan c (senseCurrent now current) s) :=
      (whenLive_of_live hr _).trans (congrArg _ (levelCrossing_of_timely ht c current))
    refine ⟨fun hclosed => ?_, fun hopen => ?_⟩
    · rw [hexec, modChan, senseCurrent_of_armed (harmed.2 hclosed)]
      rfl
    · rw [hexec, modChan, senseCurrent_of_disarmed (mt harmed.1 hopen)]
  · intro count u
    have hd : tripDeadline x = some (since + tripUs) := congrArg (Option.map _) hsince
    have hu : modSwitch c (tripSwitch (since + tripUs) o) s = u := rfl
    have hexec : exec (.tripAssert c) s = .next (if 8 ≤ count then faultFromSwitch c .limit u else u) :=
      (whenLive_of_live hr _).trans (congrArg _ (tripAssert_of_due ho hd (harmed.2 hclosed) ht))
    refine ⟨fun hlt => ?_, fun heq hpow => ?_⟩
    · rw [hexec, if_neg (Nat.not_le.2 hlt)]
    · have hpow' : powered (chanAt u c).life = true := by rw [chanAt_setChan_self]; exact hpow
      rw [hexec, if_pos heq.ge, faultFromSwitch_of_powered hpow']
  · have hd : ocDeadline x = some (since + ocUs) := congrArg (Option.map _) hsince
    calc exec (.overcurrentAssert c) s
        = .next (overcurrentAssert c s) := whenLive_of_live hr _
      _ = _ := by rw [overcurrentAssert_of_due hd (harmed.2 hclosed) ht, faultFromSwitch_of_powered hpow]
  · exact (whenLive_of_live hr _).trans (congrArg _ (openLoadLost_of_fed hdue hlife))
  · exact (whenLive_of_live hr _).trans (congrArg _ (openLoadLost_of_resuming hdue hlife))

end Sys2Proof.Machine
end

/-! ## An exchange up to its uplink, and the FEED outputs under it (R66, R106 to R108) -/

section
namespace Sys2Proof.Machine

/-! ### The command of an exchange -/

/-- When an exchange of a channel carries a command (R106). -/
def Carries (ch : Channel) (cmd : DownCmd) (arg : Nat) : Prop :=
  ch.life = .waking ∧ cmd = .wake ∧ arg = 0 ∨ ch.life = .resuming ∧ cmd = .resultQuery ∧ arg = 0 ∨
    ch.life = .fed ∧ ch.mailbox = some { cmd := cmd, arg := arg } ∨
    ch.life = .fed ∧ ch.mailbox = none ∧ cmd = .keep ∧ arg = 0

theorem Carries.downlinkOf {ch : Channel} {cmd : DownCmd} {arg : Nat} (h : Carries ch cmd arg) :
    downlinkOf ch = (cmd, arg) := by
  rcases h with ⟨hlife, rfl, rfl⟩ | ⟨hlife, rfl, rfl⟩ | ⟨hlife, hmail⟩ | ⟨hlife, hmail, rfl, rfl⟩ <;>
    simp [Machine.downlinkOf, *]

theorem Carries.powered {ch : Channel} {cmd : DownCmd} {arg : Nat} (h : Carries ch cmd arg) : powered ch.life = true := by
  rcases h with ⟨hlife, -⟩ | ⟨hlife, -⟩ | ⟨hlife, -⟩ | ⟨hlife, -⟩ <;> rw [hlife] <;> rfl

/-! ### The steps -/

theorem exchangeStart_of_due {c : Chan} {s : State} {start : Nat} {cmd : DownCmd} {arg : Nat}
    (hp : (chanAt s c).placement = some start) (ht : timely (us start) s = true) (hcmd : Carries (chanAt s c) cmd arg) :
    exchangeStart c s = setChan c { chanAt s c with
      placement := none
      exchange := some { cmd := cmd, arg := arg, seq := (chanAt s c).seq, phase := .downlink, start := start,
                         downlink := downlinkMarks cmd arg (chanAt s c).seq, baseline := 0, answerStart := none,
                         marks := [] } } s := by
  simp only [exchangeStart, hp, hcmd.powered, ht, Bool.and_self, if_true, modChan, startExchange, hcmd.downlinkOf]

theorem downlinkEnd_of_due {c : Chan} {s : State} {e : Exchange} (he : (chanAt s c).exchange = some e)
    (hp : e.phase = .downlink) (ht : timely (us (e.start + 32)) s = true) (baseline : Nat) :
    downlinkEnd c baseline s = setExchange c { e with phase := .window, baseline := baseline } s := by
  have hd : exchangeDeadline e = us (e.start + 32) := by
    rw [exchangeDeadline, hp]
    rfl
  simp [downlinkEnd, he, hp, hd, ht]

theorem answerBegins_iff (e : Exchange) (t : Nat) (r : Rise) : answerBegins e t r = true ↔
    us (e.start + 32) + 500 ≤ t ∧ t ≤ us (e.start + 52) ∧ r.before < e.baseline + 10 ∧ e.baseline + 10 ≤ r.held := by
  simp only [answerBegins, Bool.and_eq_true, decide_eq_true_eq, and_assoc]
  exact Iff.rfl

theorem answerStart_of_due {c : Chan} {s : State} {e : Exchange} {instant : Fin 1001} {rise : Rise}
    (he : (chanAt s c).exchange = some e) (hp : e.phase = .window)
    (hb : answerBegins e (us s.ms + instant.val) rise = true) (ht : timely (us s.ms + instant.val) s = true) :
    answerStart c instant rise s =
      setExchange c { e with phase := .uplink, answerStart := some (us s.ms + instant.val - 500) } s := by
  simp [answerStart, he, hp, hb, ht, answerHoldUs]

theorem answerStart_of_no_answer {c : Chan} {s : State} {e : Exchange} {instant : Fin 1001} {rise : Rise}
    (he : (chanAt s c).exchange = some e) (hb : ¬ answerBegins e (us s.ms + instant.val) rise = true) :
    answerStart c instant rise s = s := by
  simp [answerStart, he, hb]

/-! ### The FEED outputs -/

theorem feedOutput_of_unprobed {s : State} {c : Chan} (h : ∀ p, s.probe = some p → p.chan ≠ c ∧ p.partner ≠ some c) (t : Nat) :
    feedOutput t s c = switchOutput t (chanAt s c) := by
  unfold feedOutput
  split
  · rename_i p hp
    obtain ⟨hchan, hpartner⟩ := h p hp
    rw [if_neg hchan, if_neg hpartner]
  · rfl

/-- The mark of the 2 ms that an instant of the downlink lies in (R107). -/
theorem markOnLine_of_downlink {e : Exchange} {k t : Nat} (hp : e.phase = .downlink) (hlow : us e.start + 2000 * k ≤ t)
    (hhigh : t < us e.start + 2000 * (k + 1)) : markOnLine t e = e.downlink[k]? := by
  have hk : (t - us e.start) / 2000 = k := by omega
  simp only [markOnLine, hp, if_pos (Nat.le_trans (Nat.le_add_right _ _) hlow), markUs, hk]

theorem markOnLine_of_not_downlink {e : Exchange} (h : e.phase ≠ .downlink) (t : Nat) : markOnLine t e = none := by
  unfold markOnLine
  split
  · exact absurd ‹_› h
  · rfl
  · rfl

theorem mark_of_not_downlink {ch : Channel} (h : ∀ e, ch.exchange = some e → e.phase ≠ .downlink) (t : Nat) :
    ch.exchange.bind (markOnLine t) = none := by
  cases he : ch.exchange with
  | none => rfl
  | some e => exact markOnLine_of_not_downlink (h e he) t

theorem switchOutput_of_open {ch : Channel} (h : ch.sw.state = .opened ∨ ch.sw.state = .chopOff) (t : Nat) :
    switchOutput t ch = .off := by
  rcases h with h | h <;> simp [switchOutput, h]

theorem switchOutput_eq_dip_iff {ch : Channel} (h : ch.sw.state = .ramping ∨ ch.sw.state = .on) (t : Nat) :
    switchOutput t ch = .dip ↔ ch.exchange.bind (markOnLine t) = some true := by
  rcases h with h | h <;> simp [switchOutput, h]

/-- Without a dip the output follows the switch's state (R66, R67). -/
theorem switchOutput_of_no_dip {ch : Channel} {t : Nat} (h : ch.exchange.bind (markOnLine t) ≠ some true) :
    switchOutput t ch = match ch.sw.state with
      | .opened | .chopOff => .off
      | .ramping => .rising
      | .on => .full := by
  unfold switchOutput
  cases ch.sw.state <;> simp [h]

/-- Settles O22: the steps one after another, then the FEED outputs inside a downlink and outside. -/
theorem exchangeProceeds : Obligations.ExchangeProceeds := by
  unfold Obligations.ExchangeProceeds
  intro c s hr x
  refine ⟨fun start cmd arg hp ht hcmd => ?_, fun e baseline he hp ht => ?_, fun e rise instant he hp => ?_, ?_⟩
  · exact (whenLive_of_live hr _).trans (congrArg _ (exchangeStart_of_due hp ht hcmd))
  · exact (whenLive_of_live hr _).trans (congrArg _ (downlinkEnd_of_due he hp ht baseline))
  · intro now
    have hbegins := answerBegins_iff e now rise
    refine ⟨fun ht hlow hhigh hbefore hheld => ?_, fun hno => ?_⟩
    · have hb := hbegins.2 ⟨hlow, hhigh, hbefore, hheld⟩
      exact (whenLive_of_live hr _).trans (congrArg _ (answerStart_of_due he hp hb ht))
    · have hb : ¬ answerBegins e now rise = true := fun h => by
        obtain ⟨hlow, -, hbefore, hheld⟩ := hbegins.1 h
        omega
      exact (whenLive_of_live hr _).trans (congrArg _ (answerStart_of_no_answer he hb))
  · intro unprobed
    refine ⟨fun e k t dip hun he hp hdip hlow hhigh => ?_, fun t hun hno => ?_⟩
    · have hmark : x.exchange.bind (markOnLine t) = some dip := by
        rw [he, Option.bind_some, markOnLine_of_downlink hp hlow hhigh, hdip]
      rw [feedOutput_of_unprobed hun]
      refine ⟨fun hsw => switchOutput_of_open hsw t, fun hsw => ?_, fun hsw hfull => ?_⟩
      · rw [switchOutput_eq_dip_iff hsw, hmark, Option.some.injEq]
      · rw [switchOutput_of_no_dip (by simp [x, hmark, hfull]), hsw]
    · have hmark : x.exchange.bind (markOnLine t) = none := mark_of_not_downlink hno t
      exact (feedOutput_of_unprobed hun t).trans (switchOutput_of_no_dip (by simp [x, hmark]))

end Sys2Proof.Machine
end

/-! ## The eight edit kinds (R82, R88, R150 to R153) -/

section
namespace Sys2Proof.Machine

/-! ### A CHANNEL_CONFIG at a switch (R82) -/

theorem configureSwitch_of_armed {sw : FeedSwitch} (h : armed sw = true) (cfg : ChanConfig) (t : Nat) :
    configureSwitch cfg t sw = { armDetectors cfg t sw with
      rampCode := cfg.rampCode
      switchOn := sw.switchOn.map fun o => if o.completed then o else { o with adapt := false } } := by
  rw [configureSwitch, if_pos h]

theorem configureSwitch_of_disarmed {sw : FeedSwitch} (h : ¬ armed sw = true) (cfg : ChanConfig) (t : Nat) :
    configureSwitch cfg t sw = { sw with
      rampCode := cfg.rampCode
      switchOn := sw.switchOn.map fun o => if o.completed then o else { o with adapt := false } } := by
  rw [configureSwitch, if_neg h]

/-- The parts of a switch that a CHANNEL_CONFIG may change. -/
theorem configureSwitch_frame (cfg : ChanConfig) (t : Nat) (sw : FeedSwitch) : configureSwitch cfg t sw =
    { sw with
      rampCode := cfg.rampCode
      switchOn := (configureSwitch cfg t sw).switchOn
      tripTimer := (configureSwitch cfg t sw).tripTimer
      ocTimer := (configureSwitch cfg t sw).ocTimer } := by
  by_cases h : armed sw = true
  · rw [configureSwitch_of_armed h]
    rfl
  · rw [configureSwitch_of_disarmed h]

/-- The adapt flag of a switch-on still to complete is cleared. -/
theorem configureSwitch_switchOn (cfg : ChanConfig) (t : Nat) (sw : FeedSwitch) : (configureSwitch cfg t sw).switchOn =
    sw.switchOn.map fun o => { o with adapt := o.completed && o.adapt } := by
  have hflag : (fun o : SwitchOn => if o.completed then o else { o with adapt := false }) =
      fun o => { o with adapt := o.completed && o.adapt } := funext fun o => by
    obtain ⟨_, _, completed, _, _, _, _, _⟩ := o
    cases completed <;> rfl
  rw [← hflag]
  rfl

/-! ### The edits that can be rejected, and CHANNEL_CONFIG -/

theorem applyEdit_rowAdd_of_member {s : State} {e : Edit} {r : RowIndex} {c : Chan} (he : e.content = .rowAdd r c)
    (hc : c ∈ (rowAt s r).members) : applyEdit s e = rejectEdit e .alreadyMember r c s := by
  simp [applyEdit, he, hc]

theorem applyEdit_rowAdd_of_full {s : State} {e : Edit} {r : RowIndex} {c : Chan} (he : e.content = .rowAdd r c)
    (hc : c ∉ (rowAt s r).members) (hfull : 4 ≤ (rowAt s r).members.length) :
    applyEdit s e = rejectEdit e .rowFull r c s := by
  simp [applyEdit, he, hc, hfull]

theorem applyEdit_rowAdd_of_room {s : State} {e : Edit} {r : RowIndex} {c : Chan} (he : e.content = .rowAdd r c)
    (hc : c ∉ (rowAt s r).members) (hroom : (rowAt s r).members.length < 4) :
    applyEdit s e = setRow r { rowAt s r with members := (rowAt s r).members ++ [c] } s := by
  simp [applyEdit, he, hc, Nat.not_le.2 hroom]

theorem applyEdit_rowDrop_of_not_member {s : State} {e : Edit} {r : RowIndex} {c : Chan} (he : e.content = .rowDrop r c)
    (hc : c ∉ (rowAt s r).members) : applyEdit s e = rejectEdit e .notMember r c s := by
  simp [applyEdit, he, hc]

theorem applyEdit_rowDrop_of_member {s : State} {e : Edit} {r : RowIndex} {c : Chan} (he : e.content = .rowDrop r c)
    (hc : c ∈ (rowAt s r).members) :
    applyEdit s e = setRow r { rowAt s r with members := (rowAt s r).members.erase c } s := by
  simp [applyEdit, he, hc]

theorem applyEdit_channelConfig {s : State} {e : Edit} {c : Chan} {cfg : ChanConfig} (he : e.content = .channelConfig c cfg) :
    applyEdit s e = modChan c (configureChannel cfg (us s.ms)) s := by rw [applyEdit, he]

/-- The record of a rejection names the edit's own kind. -/
theorem rejectEdit_of_kind {e : Edit} {kind : EditKind} (h : e.content.kind = kind) (reason : RejectReason) (r : RowIndex)
    (c : Chan) (s : State) : rejectEdit e reason r c s = report e.poster (some c) (.editReject e.tag kind reason r) s := by
  rw [rejectEdit, h]

/-- Settles O9: kind by kind; a CHANNEL_CONFIG by whether the detectors are armed. -/
theorem editsApplyByKind : Obligations.EditsApplyByKind := by
  unfold Obligations.EditsApplyByKind
  intro s e rejected
  refine ⟨fun r fd ex ms he => ?_, fun r c he => ?_, fun r c he => ?_, fun c cfg he => ?_, fun l he => ?_, fun g he => ?_,
    fun st df he => ?_, fun fl level he => ?_⟩
  · rw [applyEdit, he]
    rfl
  · have hkind : e.content.kind = .rowAdd := by rw [he]; rfl
    refine ⟨fun hc => ?_, fun hc hfull => ?_, fun hc hroom => applyEdit_rowAdd_of_room he hc hroom⟩
    · exact (applyEdit_rowAdd_of_member he hc).trans (rejectEdit_of_kind hkind ..)
    · exact (applyEdit_rowAdd_of_full he hc hfull).trans (rejectEdit_of_kind hkind ..)
  · have hkind : e.content.kind = .rowDrop := by rw [he]; rfl
    refine ⟨fun hc => ?_, fun hc => applyEdit_rowDrop_of_member he hc⟩
    exact (applyEdit_rowDrop_of_not_member he hc).trans (rejectEdit_of_kind hkind ..)
  · intro t old sw
    have ht : t = modChan c (configureChannel cfg (us s.ms)) s := applyEdit_channelConfig he
    have hchan : chanAt t c = configureChannel cfg (us s.ms) (chanAt s c) := by rw [ht, chanAt_modChan_self]
    have hsw : sw = configureSwitch cfg (us s.ms) old := congrArg Channel.sw hchan
    have harmed := armed_iff old
    refine ⟨by rw [ht]; rfl, fun d hd => by rw [ht, chanAt_modChan_other hd], ?_, ?_, fun o ho => ?_, fun ho => ?_,
      fun hclosed => ?_, fun hopen => ?_⟩
    · rw [hchan, hsw]
      rfl
    · rw [hsw]
      exact configureSwitch_frame cfg _ old
    · rw [hsw, configureSwitch_switchOn, ho, Option.map_some]
    · rw [hsw, configureSwitch_switchOn, ho, Option.map_none]
    · rw [hsw, configureSwitch_of_armed (harmed.2 hclosed)]
      exact ⟨rfl, rfl⟩
    · have hdisarmed : ¬ armed old = true := by
        rw [harmed]
        rcases hopen with h | h <;> simp [h]
      rw [hsw, configureSwitch_of_disarmed hdisarmed]
      exact ⟨rfl, rfl⟩
  · rw [applyEdit, he]
  · rw [applyEdit, he]
  · rw [applyEdit, he]
  · rw [applyEdit, he]

end Sys2Proof.Machine
end

/-! ## One channel's test, mailbox and exchange (R95, R106, R118, R133)

`TestFacts` says `TestMatches` field by field: what a channel's state lets it hold of a test, a mailbox command and an
exchange in flight. No other field of the channel counts. -/

section
namespace Sys2Proof.Machine

/-- An exchange in flight carries the mailbox command, unless it carries one of the commands that a channel sends by itself
(R106). -/
def MailCarried (e : Exchange) (ch : Channel) : Prop :=
  e.cmd ≠ .wake → e.cmd ≠ .keep → e.cmd ≠ .resultQuery → ch.mailbox = some { cmd := e.cmd, arg := e.arg }

/-- What `TestMatches` says, field by field. -/
structure TestFacts (ch : Channel) : Prop where
  requested : ∀ k, ch.test = some k → k.phase = .requested →
    ch.life = .fed ∧ ch.mailbox = some { cmd := .beginTest, arg := k.duration }
  running : ∀ k, ch.test = some k → k.phase = .running → ch.life = .testing
  resuming : ∀ k, ch.test = some k → k.phase = .resuming → ch.life = .resuming
  untested : ch.test = none →
    ch.life ≠ .testing ∧ ch.life ≠ .resuming ∧ ch.mailbox.map Mailbox.cmd ≠ some .beginTest
  mailbox : ch.mailbox ≠ none → ch.life = .fed
  exchange : ∀ e, ch.exchange = some e → powered ch.life = true ∧ MailCarried e ch

theorem testMatches_iff (ch : Channel) : TestMatches ch ↔ TestFacts ch := by
  have htest : (match ch.test with
      | some k =>
        (match k.phase with
          | .requested => ch.life = .fed ∧ ch.mailbox = some { cmd := .beginTest, arg := k.duration }
          | .running => ch.life = .testing
          | .resuming => ch.life = .resuming)
      | none => ch.life ≠ .testing ∧ ch.life ≠ .resuming ∧ ch.mailbox.map Mailbox.cmd ≠ some .beginTest) ↔
      (∀ k, ch.test = some k → k.phase = .requested →
        ch.life = .fed ∧ ch.mailbox = some { cmd := .beginTest, arg := k.duration }) ∧
      (∀ k, ch.test = some k → k.phase = .running → ch.life = .testing) ∧
      (∀ k, ch.test = some k → k.phase = .resuming → ch.life = .resuming) ∧
      (ch.test = none → ch.life ≠ .testing ∧ ch.life ≠ .resuming ∧ ch.mailbox.map Mailbox.cmd ≠ some .beginTest) := by
    cases ch.test with
    | none => simp
    | some k => cases hk : k.phase <;> simp [hk]
  have hexchange : (match ch.exchange with
      | some e =>
        powered ch.life = true ∧
          (e.cmd ≠ .wake → e.cmd ≠ .keep → e.cmd ≠ .resultQuery → ch.mailbox = some { cmd := e.cmd, arg := e.arg })
      | none => True) ↔ ∀ e, ch.exchange = some e → powered ch.life = true ∧ MailCarried e ch := by
    cases ch.exchange with
    | none => simp
    | some e => simp [MailCarried]
  constructor
  · rintro ⟨h1, h2, h3⟩
    obtain ⟨hq, hr, hs, hu⟩ := htest.1 h1
    exact ⟨hq, hr, hs, hu, h2, hexchange.1 h3⟩
  · rintro ⟨hq, hr, hs, hu, h2, h3⟩
    exact ⟨htest.2 ⟨hq, hr, hs, hu⟩, h2, hexchange.2 h3⟩

/-- A channel alike in its state, test, mailbox and exchange. -/
theorem TestFacts.of_same {x y : Channel} (h : TestFacts x) (hlife : y.life = x.life) (ht : y.test = x.test)
    (hm : y.mailbox = x.mailbox) (he : y.exchange = x.exchange) : TestFacts y := by
  obtain ⟨h1, h2, h3, h4, h5, h6⟩ := h
  constructor
  · rwa [hlife, ht, hm]
  · rwa [hlife, ht]
  · rwa [hlife, ht]
  · rwa [hlife, ht, hm]
  · rwa [hlife, hm]
  · rw [hlife, he]
    exact fun e h0 => ⟨(h6 e h0).1, fun a b c => hm.trans ((h6 e h0).2 a b c)⟩

/-- A channel with no test, no mailbox command and no exchange, in any state but TESTING and RESUMING. -/
theorem TestFacts.of_empty {ch : Channel} (ht : ch.test = none) (hm : ch.mailbox = none) (he : ch.exchange = none)
    (h1 : ch.life ≠ .testing) (h2 : ch.life ≠ .resuming) : TestFacts ch where
  requested := by simp [ht]
  running := by simp [ht]
  resuming := by simp [ht]
  untested := fun _ => ⟨h1, h2, by simp [hm]⟩
  mailbox := fun h => absurd hm h
  exchange := by simp [he]

/-! ### What a channel's state rules out -/

theorem TestFacts.no_exchange {ch : Channel} (h : TestFacts ch) (hp : powered ch.life ≠ true) : ch.exchange = none :=
  Option.eq_none_iff_forall_ne_some.2 fun e he => hp (h.exchange e he).1

theorem TestFacts.no_mailbox {ch : Channel} (h : TestFacts ch) (hl : ch.life ≠ .fed) : ch.mailbox = none :=
  Decidable.not_not.1 fun hm => hl (h.mailbox hm)

/-- A test makes its channel FED, TESTING or RESUMING. -/
theorem TestFacts.no_test {ch : Channel} (h : TestFacts ch) (h1 : ch.life ≠ .fed) (h2 : ch.life ≠ .testing)
    (h3 : ch.life ≠ .resuming) : ch.test = none := by
  refine Option.eq_none_iff_forall_ne_some.2 fun k hk => ?_
  cases hp : k.phase with
  | requested => exact h1 (h.requested k hk hp).1
  | running => exact h2 (h.running k hk hp)
  | resuming => exact h3 (h.resuming k hk hp)

/-- A FED channel with anything but BEGIN_TEST in its mailbox, or with nothing, has no test. -/
theorem TestFacts.no_test_of_fed {ch : Channel} (h : TestFacts ch) (hl : ch.life = .fed)
    (hm : ch.mailbox.map Mailbox.cmd ≠ some .beginTest) : ch.test = none := by
  refine Option.eq_none_iff_forall_ne_some.2 fun k hk => ?_
  cases hp : k.phase with
  | requested => exact hm (by rw [(h.requested k hk hp).2]; rfl)
  | running => exact absurd (hl.symm.trans (h.running k hk hp)) (by decide)
  | resuming => exact absurd (hl.symm.trans (h.resuming k hk hp)) (by decide)

/-! ### Entries to the unpowered states and to WAKING -/

/-- A departure leaves no exchange: a powered channel's ends, an unpowered one has none (R94). -/
theorem TestFacts.departed_exchange {ch : Channel} (h : TestFacts ch) (g : Globals) (now : Nat) :
    (departed g now ch).exchange = none := by
  unfold departed
  split
  · rfl
  · rename_i hp
    exact h.no_exchange hp

/-- Whatever an entry to an unpowered state leaves of its channel holds no test, no mailbox command and no exchange. -/
theorem testFacts_settled {ch : Channel} (he : ch.exchange = none) (h1 : ch.life ≠ .testing) (h2 : ch.life ≠ .resuming) :
    TestFacts (settled ch) := .of_empty rfl rfl he h1 h2

theorem TestFacts.wakeChannel {ch : Channel} (h : TestFacts ch) (hl : ch.life = .dark) : TestFacts (wakeChannel ch) :=
  .of_empty (h.no_test (by simp [hl]) (by simp [hl]) (by simp [hl])) (h.no_mailbox (by simp [hl]))
    (h.no_exchange (by simp [hl, powered])) nofun nofun

/-! ### Tests -/

/-- The ACK to BEGIN_TEST: the test runs, the mailbox and the exchange are gone (R136). -/
theorem testFacts_testChannel {ch : Channel} (band : Nat) (ht : ch.test ≠ none) (he : ch.exchange = none) :
    TestFacts (testChannel band ch) := by
  obtain ⟨k, hk⟩ := Option.ne_none_iff_exists'.1 ht
  constructor <;> simp [testChannel, hk, he]

theorem TestFacts.resumeChannel {ch : Channel} (h : TestFacts ch) {k : TestContext} (hk : ch.test = some k)
    (hp : k.phase = .running) (aborted : Bool) : TestFacts (resumeChannel aborted ch) := by
  have hl := h.running k hk hp
  have hm := h.no_mailbox (by simp [hl])
  have he := h.no_exchange (by simp [hl, powered])
  constructor <;> simp [Machine.resumeChannel, hk, hm, he]

theorem TestFacts.countFrame {ch : Channel} (h : TestFacts ch) : TestFacts (countFrame ch) := by
  unfold Machine.countFrame
  split
  · rename_i k hk
    split
    · rename_i hp
      have hl := h.running k hk hp
      have hcounted : TestFacts { ch with test := some { k with remaining := k.remaining - 1 } } := by
        have hm := h.no_mailbox (by simp [hl])
        have he := h.no_exchange (by simp [hl, powered])
        constructor <;> simp [hl, hm, he, hp]
      simp only
      split
      · exact hcounted.resumeChannel rfl hp false
      · exact hcounted
    · exact h
  · exact h

/-! ### Mailbox commands -/

/-- With the mailbox empty an exchange carries one of a channel's own commands, whatever the mailbox holds later. -/
theorem MailCarried.of_empty {e : Exchange} {x : Channel} (h : MailCarried e x) (hm : x.mailbox = none) (y : Channel) :
    MailCarried e y := fun h1 h2 h3 => by
  have hsome := h h1 h2 h3
  rw [hm] at hsome
  cases hsome

theorem TestFacts.requestTest {ch : Channel} (h : TestFacts ch) (hl : ch.life = .fed) (hm : ch.mailbox = none) (d : Nat) :
    TestFacts (requestTest d ch) where
  requested := fun k hk _ => by cases hk; exact ⟨hl, rfl⟩
  running := fun k hk hp => by cases hk; cases hp
  resuming := fun k hk hp => by cases hk; cases hp
  untested := nofun
  mailbox := fun _ => hl
  exchange := fun e he => ⟨(h.exchange e he).1, (h.exchange e he).2.of_empty hm _⟩

/-- A FED channel's empty mailbox takes a command that begins no test (R118). -/
theorem TestFacts.withMailbox {ch : Channel} (h : TestFacts ch) (hl : ch.life = .fed) (hm : ch.mailbox = none) {m : Mailbox}
    (hcmd : m.cmd ≠ .beginTest) : TestFacts { ch with mailbox := some m } := by
  have ht : ch.test = none := h.no_test_of_fed hl (by simp [hm])
  exact {
    requested := by simp [ht]
    running := by simp [ht]
    resuming := by simp [ht]
    untested := fun _ => ⟨by simp [hl], by simp [hl], by simpa using hcmd⟩
    mailbox := fun _ => hl
    exchange := fun e he => ⟨(h.exchange e he).1, (h.exchange e he).2.of_empty hm _⟩ }

/-- A mailbox command that begins no test leaves with its exchange ended (R119). -/
theorem TestFacts.emptyMailbox {ch : Channel} (h : TestFacts ch) (he : ch.exchange = none)
    (hm : ch.mailbox.map Mailbox.cmd ≠ some .beginTest) : TestFacts { ch with mailbox := none } where
  requested := fun k hk hp => absurd (by rw [(h.requested k hk hp).2]; rfl) hm
  running := h.running
  resuming := h.resuming
  untested := fun ht => ⟨(h.untested ht).1, (h.untested ht).2.1, nofun⟩
  mailbox := fun h0 => absurd rfl h0
  exchange := by simp [he]

/-- A test requested and not on the line is taken back with its BEGIN_TEST (R135). -/
theorem TestFacts.withdrawTest {ch : Channel} (h : TestFacts ch) {k : TestContext} (hk : ch.test = some k)
    (hp : k.phase = .requested) (he : ∀ e, ch.exchange = some e → e.cmd ≠ .beginTest) :
    TestFacts { ch with test := none, mailbox := none } := by
  obtain ⟨hl, hm⟩ := h.requested k hk hp
  refine ⟨nofun, nofun, nofun, fun _ => ⟨by simp [hl], by simp [hl], nofun⟩, fun h0 => absurd rfl h0, fun e h0 => ?_⟩
  obtain ⟨hpow, hcarried⟩ := h.exchange e h0
  refine ⟨hpow, fun h1 h2 h3 => ?_⟩
  have hsame := (hcarried h1 h2 h3).symm.trans hm
  exact absurd (congrArg Mailbox.cmd (Option.some.inj hsame)) (he e h0)

/-! ### Exchanges -/

theorem TestFacts.startExchange {ch : Channel} (h : TestFacts ch) (hp : powered ch.life = true) (t : Nat) :
    TestFacts (startExchange t ch) where
  requested := h.requested
  running := h.running
  resuming := h.resuming
  untested := h.untested
  mailbox := h.mailbox
  exchange := fun e he => by
    cases he
    refine ⟨hp, fun h1 h2 h3 => ?_⟩
    cases hl : ch.life with
    | waking => exact absurd (by simp [downlinkOf, hl]) h1
    | resuming => exact absurd (by simp [downlinkOf, hl]) h3
    | fed =>
      cases hm : ch.mailbox with
      | none => exact absurd (by simp [downlinkOf, hl, hm]) h2
      | some m => simp [Machine.startExchange, downlinkOf, hl, hm]
    | dark | testing | faulted | retired => rw [hl] at hp; cases hp

/-- The exchange in flight moves on with its command and argument, or ends. -/
theorem TestFacts.withExchange {ch : Channel} (h : TestFacts ch) {e' : Option Exchange}
    (he : ∀ x, e' = some x → ∃ e, ch.exchange = some e ∧ x.cmd = e.cmd ∧ x.arg = e.arg) :
    TestFacts { ch with exchange := e' } where
  requested := h.requested
  running := h.running
  resuming := h.resuming
  untested := h.untested
  mailbox := h.mailbox
  exchange := fun x hx => by
    obtain ⟨e, h0, hcmd, harg⟩ := he x hx
    obtain ⟨hpow, hcarried⟩ := h.exchange e h0
    exact ⟨hpow, fun h1 h2 h3 => by rw [hcmd] at h1 h2 h3; rw [hcmd, harg]; exact hcarried h1 h2 h3⟩

end Sys2Proof.Machine
end

/-! ## What no port commands keeps tests, mailboxes and exchanges with their channels (R91 to R97, R115, R119, R126, R127) -/

section
namespace Sys2Proof.Machine

/-- A step keeps tests, mailboxes and exchanges with their channels. -/
structure TestsKept (s t : State) : Prop where
  tests : TestsMatch s → TestsMatch t

theorem TestsKept.refl (s : State) : TestsKept s s := ⟨id⟩

theorem TestsKept.trans {s t u : State} (h : TestsKept s t) (k : TestsKept t u) : TestsKept s u := ⟨k.tests ∘ h.tests⟩

theorem TestsKept.ite {s t u : State} {q : Prop} [Decidable q] (ht : TestsKept s t) (hu : TestsKept s u) :
    TestsKept s (if q then t else u) := by split <;> assumption

theorem testsMatch_facts {s : State} (h : TestsMatch s) (c : Chan) : TestFacts (chanAt s c) := (testMatches_iff _).1 (h c)

/-- A step that writes no channel. -/
theorem testsKept_of_channels {s t : State} (h : t.channels = s.channels) : TestsKept s t :=
  ⟨fun hs c => by rw [chanAt_congr h]; exact hs c⟩

/-- A step that changes every channel by itself. -/
theorem testsKept_of_each {s t : State} (h : ∀ c, TestFacts (chanAt s c) → TestFacts (chanAt t c)) : TestsKept s t :=
  ⟨fun hs c => (testMatches_iff _).2 (h c (testsMatch_facts hs c))⟩

/-- A step of one channel. -/
theorem testsKept_of_one {s t : State} (c : Chan) (hd : ∀ d, d ≠ c → chanAt t d = chanAt s d)
    (hc : TestFacts (chanAt s c) → TestFacts (chanAt t c)) : TestsKept s t := testsKept_of_each fun d => by
  by_cases hdc : d = c
  · exact hdc ▸ hc
  · rw [hd d hdc]
    exact id

theorem testsKept_modChan {c : Chan} {f : Channel → Channel} {s : State}
    (h : TestFacts (chanAt s c) → TestFacts (f (chanAt s c))) : TestsKept s (modChan c f s) :=
  testsKept_of_one c (fun _ hd => chanAt_modChan_other hd f s) (by rwa [chanAt_modChan_self])

/-- A change of a channel that leaves its state, test, mailbox and exchange. -/
theorem testsKept_modChan_same {c : Chan} {f : Channel → Channel} {s : State} (hl : (f (chanAt s c)).life = (chanAt s c).life)
    (ht : (f (chanAt s c)).test = (chanAt s c).test) (hm : (f (chanAt s c)).mailbox = (chanAt s c).mailbox)
    (he : (f (chanAt s c)).exchange = (chanAt s c).exchange) : TestsKept s (modChan c f s) :=
  testsKept_modChan fun h => h.of_same hl ht hm he

theorem testsKept_reportChan (c : Chan) (b : ReportBody) (s : State) : TestsKept s (reportChan c b s) :=
  testsKept_of_channels (reportChan_channels c b s)

theorem testsKept_look (s : State) : TestsKept s (look s) := testsKept_of_channels (look_channels s)

theorem testsKept_cancelProbe (c : Chan) (s : State) : TestsKept s (cancelProbe c s) :=
  testsKept_of_channels (cancelProbe_channels c s)

/-! ### Entries to the unpowered states -/

theorem testsKept_enterDark (c : Chan) (cause : StateCause) (own : Option ReportBody) (o : TestOutcome) (s : State) :
    TestsKept s (enterDark c cause own o s) :=
  testsKept_of_one c (fun d hd => by rw [chanAt_enterDark, if_neg hd]) fun h => by
    rw [chanAt_enterDark, if_pos rfl]
    exact testFacts_settled (h.departed_exchange _ _) nofun nofun

theorem testsKept_enterFaulted (c : Chan) (cause : StateCause) (partner : Option Chan) (s : State) :
    TestsKept s (enterFaulted c cause partner s) :=
  testsKept_of_one c (fun d hd => by rw [chanAt_enterFaulted, if_neg hd]) fun h => by
    rw [chanAt_enterFaulted, if_pos rfl]
    exact testFacts_settled (h.departed_exchange _ _) nofun nofun

theorem testsKept_enterRetired (c : Chan) (s : State) : TestsKept s (enterRetired c s) :=
  testsKept_of_one c (fun d hd => by rw [chanAt_enterRetired, if_neg hd]) fun h => by
    rw [chanAt_enterRetired, if_pos rfl]
    exact testFacts_settled (h.departed_exchange _ _) nofun nofun

/-! ### Outcomes of exchanges, which have ended -/

theorem testsKept_countAttempt (c : Chan) (s : State) : TestsKept s (countAttempt c s) := by
  have hcount : TestsKept s (modChan c (fun ch => { ch with attempts := ch.attempts + 1 }) s) :=
    testsKept_modChan_same rfl rfl rfl rfl
  exact .ite (hcount.trans (testsKept_enterDark ..)) hcount

theorem testsKept_goSilent (c : Chan) (s : State) : TestsKept s (goSilent c s) := by
  unfold goSilent
  exact testsKept_enterDark ..

theorem testsKept_goOpenLoad (c : Chan) (s : State) : TestsKept s (goOpenLoad c s) := by
  unfold goOpenLoad
  exact testsKept_enterDark ..

theorem testsKept_countMiss (c : Chan) (s : State) : TestsKept s (countMiss c s) := by
  have hcount : TestsKept s (modChan c (fun ch => { ch with misses := ch.misses + 1 }) s) :=
    testsKept_modChan_same rfl rfl rfl rfl
  exact .ite (hcount.trans (testsKept_goSilent ..)) hcount

theorem testsKept_missAction (c : Chan) (s : State) : TestsKept s (missAction c s) := by
  unfold missAction
  split
  · exact testsKept_countAttempt c s
  · exact testsKept_countMiss c s
  · exact testsKept_countMiss c s
  all_goals exact .refl s

theorem testsKept_helloAnswer {c : Chan} {s : State} (hl : (chanAt s c).life = .waking)
    (he : (chanAt s c).exchange = none) (a : Answer) : TestsKept s (helloAnswer c a s) := by
  refine TestsKept.trans (testsKept_modChan fun h => ?_) (testsKept_reportChan ..)
  exact .of_empty (h.no_test (by simp [hl]) (by simp [hl]) (by simp [hl])) (h.no_mailbox (by simp [hl])) he nofun nofun

theorem chanAt_resultAnswer (c : Chan) (a : Answer) (s : State) (d : Chan) : chanAt (resultAnswer c a s) d =
    if d = c then feedChannel { chanAt s c with test := none } else chanAt s d := by
  unfold resultAnswer
  split
  · rw [chanAt_modChan, chanAt_reportChan, chanAt_reportChan, chanAt_modChan_self]
    by_cases hd : d = c
    · rw [if_pos hd, if_pos hd]
    · rw [if_neg hd, if_neg hd, chanAt_modChan_other hd]
  · rename_i ht
    rw [chanAt_modChan, ← ht]

theorem testsKept_resultAnswer {c : Chan} {s : State} (hl : (chanAt s c).life = .resuming)
    (he : (chanAt s c).exchange = none) (a : Answer) : TestsKept s (resultAnswer c a s) :=
  testsKept_of_one c (fun d hd => by rw [chanAt_resultAnswer, if_neg hd]) fun h => by
    rw [chanAt_resultAnswer, if_pos rfl]
    exact .of_empty rfl (h.no_mailbox (by simp [hl])) he nofun nofun

theorem testsKept_emptyMailbox {c : Chan} {s : State} (he : (chanAt s c).exchange = none)
    (hm : (chanAt s c).mailbox.map Mailbox.cmd ≠ some .beginTest) :
    TestsKept s (modChan c (fun ch => { ch with mailbox := none }) s) := testsKept_modChan fun h => h.emptyMailbox he hm

theorem testsKept_settleMailbox {c : Chan} {s : State} (he : (chanAt s c).exchange = none)
    (hm : (chanAt s c).mailbox.map Mailbox.cmd ≠ some .beginTest) (o : MailOutcome) (m : Mailbox) (n : Nat)
    (f : Option StatusFields) : TestsKept s (settleMailbox c o m n f s) :=
  (testsKept_emptyMailbox he hm).trans (testsKept_reportChan ..)

theorem chanAt_refuseTest (c : Chan) (a : Answer) (s : State) (d : Chan) : chanAt (refuseTest c a s) d =
    if d = c then { chanAt s c with test := none, mailbox := none } else chanAt s d := by
  unfold refuseTest
  split
  · simp [chanAt_modChan]
  · rename_i ht
    rw [chanAt_modChan, ← ht]

theorem testsKept_refuseTest {c : Chan} {s : State} (hl : (chanAt s c).life = .fed) (he : (chanAt s c).exchange = none)
    (a : Answer) : TestsKept s (refuseTest c a s) :=
  testsKept_of_one c (fun d hd => by rw [chanAt_refuseTest, if_neg hd]) fun _ => by
    rw [chanAt_refuseTest, if_pos rfl]
    exact .of_empty rfl rfl he (by simp [hl]) (by simp [hl])

theorem departed_test (g : Globals) (now : Nat) (ch : Channel) : (departed g now ch).test = ch.test := by
  unfold departed
  split <;> rfl

/-- The ACK to BEGIN_TEST departs and enters TESTING in one (R136). -/
theorem testsKept_beginTest {c : Chan} {s : State} (hm : (chanAt s c).mailbox.map Mailbox.cmd = some .beginTest) (band : Nat) :
    TestsKept s (modChan c (testChannel band) (depart c s)) := by
  rw [depart_eq]
  refine testsKept_of_one c (fun d hd => by rw [chanAt_modChan_other hd, chanAt_modChan_other hd]) fun h => ?_
  rw [chanAt_modChan_self, chanAt_modChan_self]
  refine testFacts_testChannel band (fun ht => ?_) (h.departed_exchange _ _)
  rw [departed_test] at ht
  exact (h.untested ht).2.2 hm

/-- A valid answer in FED settles the mailbox command that its exchange carried (R119, R136, R137). -/
theorem testsKept_fedAnswer {c : Chan} {s : State} {e : Exchange} (hl : (chanAt s c).life = .fed)
    (he : (chanAt s c).exchange = none) (hm : MailCarried e (chanAt s c)) (a : Answer) : TestsKept s (fedAnswer c e a s) := by
  have hu := chanAt_modChan_self c (fun ch => { ch with misses := 0 }) s
  have hmisses : TestsKept s (modChan c (fun ch => { ch with misses := 0 }) s) := testsKept_modChan_same rfl rfl rfl rfl
  unfold fedAnswer
  refine hmisses.trans ?_
  generalize modChan c (fun ch => { ch with misses := 0 }) s = u at hu ⊢
  replace hl : (chanAt u c).life = .fed := by rw [hu]; exact hl
  replace he : (chanAt u c).exchange = none := by rw [hu]; exact he
  replace hm : MailCarried e (chanAt u c) := by rw [hu]; exact hm
  unfold MailCarried at hm
  cases hcmd : e.cmd with
  | keep => exact .refl u
  | wake => exact .refl u
  | resultQuery => exact .refl u
  | query => exact testsKept_settleMailbox he (by simp [hm, hcmd]) ..
  | aux n => exact testsKept_settleMailbox he (by simp [hm, hcmd]) ..
  | doze =>
    have hnot : (chanAt u c).mailbox.map Mailbox.cmd ≠ some .beginTest := by simp [hm, hcmd]
    exact .ite ((testsKept_emptyMailbox he hnot).trans (testsKept_enterDark ..)) (testsKept_settleMailbox he hnot ..)
  | beginTest => exact .ite (testsKept_beginTest (by simp [hm, hcmd]) _) (testsKept_refuseTest hl he a)

theorem testsKept_validAction {c : Chan} {s : State} {e : Exchange} (he : (chanAt s c).exchange = none)
    (hm : MailCarried e (chanAt s c)) (a : Answer) : TestsKept s (validAction c e a s) := by
  unfold validAction
  split
  · exact testsKept_helloAnswer ‹_› he a
  · exact testsKept_fedAnswer ‹_› he hm a
  · exact testsKept_resultAnswer ‹_› he a
  all_goals exact .refl s

theorem testsKept_refreshStatus (c : Chan) (a : Answer) (s : State) : TestsKept s (refreshStatus c a s) :=
  testsKept_modChan_same rfl rfl rfl rfl

theorem testsKept_reportChange (c : Chan) (a : Answer) (frame : Nat) (old : Option StatusRecord) (s : State) :
    TestsKept s (reportChange c a frame old s) := testsKept_of_channels (reportChange_channels ..)

theorem testsKept_exchangeOutcome {c : Chan} {s : State} {e : Exchange} (he : (chanAt s c).exchange = none)
    (hm : MailCarried e (chanAt s c)) (o : ExchangeOutcome) (answer : Option Answer) :
    TestsKept s (exchangeOutcome c e o answer s) := by
  unfold exchangeOutcome
  split
  · rename_i a
    have hanswered : TestsKept s (modChan c (fun ch => { ch with seq := !ch.seq }) (refreshStatus c a s)) :=
      (testsKept_refreshStatus c a s).trans (testsKept_modChan_same rfl rfl rfl rfl)
    refine (hanswered.trans (testsKept_validAction ?_ ?_ a)).trans (testsKept_reportChange ..)
    · simpa [refreshStatus] using he
    · simpa [refreshStatus, MailCarried] using hm
  · exact ((testsKept_refreshStatus ..).trans (testsKept_missAction ..)).trans (testsKept_reportChange ..)
  · exact testsKept_missAction c s

/-! ### The steps of the line exchange units -/

theorem testsKept_exchangeStart (c : Chan) (s : State) : TestsKept s (exchangeStart c s) := by
  unfold exchangeStart
  simp only
  split
  · split
    · rename_i t _ hdue
      exact testsKept_modChan fun h => h.startExchange (Bool.and_eq_true_iff.1 hdue).1 t
    · exact .refl s
  · exact .refl s

theorem testsKept_setExchange {c : Chan} {s : State} {e e' : Exchange} (he : (chanAt s c).exchange = some e)
    (hcmd : e'.cmd = e.cmd) (harg : e'.arg = e.arg) : TestsKept s (setExchange c e' s) :=
  testsKept_modChan fun h => h.withExchange fun x hx => by cases hx; exact ⟨e, he, hcmd, harg⟩

theorem testsKept_downlinkEnd (c : Chan) (baseline : Nat) (s : State) : TestsKept s (downlinkEnd c baseline s) := by
  unfold downlinkEnd
  split
  · rename_i e he
    exact .ite (testsKept_setExchange he rfl rfl) (.refl s)
  · exact .refl s

theorem testsKept_answerStart (c : Chan) (instant : Fin 1001) (rise : Rise) (s : State) :
    TestsKept s (answerStart c instant rise s) := by
  unfold answerStart
  simp only
  split
  · rename_i e he
    exact .ite (testsKept_setExchange he rfl rfl) (.refl s)
  · exact .refl s

/-- An exchange ends, and the channel table takes its outcome: what it carried of the mailbox is there still. -/
theorem testsKept_endOfExchange {c : Chan} {s : State} {e e' : Exchange} (he : (chanAt s c).exchange = some e)
    (hcmd : e'.cmd = e.cmd) (harg : e'.arg = e.arg) (inside : Bool) (o : ExchangeOutcome) (answer : Option Answer) :
    TestsKept s (exchangeOutcome c e' o answer (modChan c (takeExchange inside) s)) := ⟨fun hs => by
  have htake : TestsKept s (modChan c (takeExchange inside) s) :=
    testsKept_modChan fun h => (h.withExchange (e' := none) nofun).of_same rfl rfl rfl rfl
  have hcarried := ((testsMatch_facts hs c).exchange e he).2
  refine (testsKept_exchangeOutcome ?_ ?_ o answer).tests (htake.tests hs)
  · rw [chanAt_modChan_self]
    rfl
  · rw [chanAt_modChan_self, MailCarried, hcmd, harg]
    exact hcarried⟩

theorem testsKept_windowExpiry (c : Chan) (s : State) : TestsKept s (windowExpiry c s) := by
  unfold windowExpiry
  split
  · rename_i e he
    exact .ite (testsKept_endOfExchange he rfl rfl ..) (.refl s)
  · exact .refl s

theorem testsKept_uplinkEnd (c : Chan) (average : Nat) (s : State) : TestsKept s (uplinkEnd c average s) := by
  unfold uplinkEnd
  split
  · rename_i e he
    refine .ite ?_ (.refl s)
    exact testsKept_endOfExchange he rfl rfl ..
  · exact .refl s

/-! ### The steps of the feed switches -/

theorem testsKept_modSwitch (c : Chan) (f : FeedSwitch → FeedSwitch) (s : State) : TestsKept s (modSwitch c f s) :=
  testsKept_modChan_same rfl rfl rfl rfl

theorem testsKept_openLoadLost (c : Chan) (s : State) : TestsKept s (openLoadLost c s) :=
  .ite (testsKept_goOpenLoad c s) (.refl s)

theorem testsKept_switchOnComplete (c : Chan) (s : State) : TestsKept s (switchOnComplete c s) := by
  unfold switchOnComplete
  split
  · exact .ite (testsKept_modSwitch ..) (.refl s)
  · exact .refl s

theorem testsKept_rampEnd (c : Chan) (s : State) : TestsKept s (rampEnd c s) := by
  unfold rampEnd
  simp only
  split
  · exact .ite (testsKept_modSwitch ..) (.refl s)
  · exact .refl s

theorem testsKept_chopPeriodStart (c : Chan) (s : State) : TestsKept s (chopPeriodStart c s) := by
  unfold chopPeriodStart
  simp only
  split
  · exact .ite (testsKept_modSwitch ..) (.refl s)
  · exact .refl s

theorem testsKept_faultFromSwitch (c : Chan) (cause : StateCause) (s : State) : TestsKept s (faultFromSwitch c cause s) :=
  .ite (testsKept_enterFaulted ..) (.refl s)

theorem testsKept_tripAssert (c : Chan) (s : State) : TestsKept s (tripAssert c s) := by
  unfold tripAssert
  simp only
  split
  · refine .ite ?_ (.refl s)
    exact .ite ((testsKept_modSwitch ..).trans (testsKept_faultFromSwitch ..)) (testsKept_modSwitch ..)
  · exact .refl s

theorem testsKept_overcurrentAssert (c : Chan) (s : State) : TestsKept s (overcurrentAssert c s) := by
  unfold overcurrentAssert
  simp only
  split
  · exact .ite (testsKept_faultFromSwitch ..) (.refl s)
  · exact .refl s

theorem testsKept_levelCrossing (c : Chan) (current : Nat) (instant : Fin 1001) (s : State) :
    TestsKept s (levelCrossing c current instant s) := by
  refine .ite (testsKept_modChan fun h => ?_) (.refl s)
  unfold senseCurrent
  split <;> exact h.of_same rfl rfl rfl rfl

/-! ### The steps of the probe engine -/

/-- A SIGNATURE wakes a DARK channel that wakes by itself (R126). -/
theorem testsKept_signature {c : Chan} {s : State} (hl : (chanAt s c).life = .dark) : TestsKept s (modChan c (fun ch =>
    let ch := { ch with line := .signature }
    if ch.cfg.autoWake then wakeChannel ch else ch) s) := by
  refine testsKept_modChan fun h => ?_
  have hsignature : TestFacts { chanAt s c with line := .signature } := h.of_same rfl rfl rfl rfl
  simp only
  split
  · exact hsignature.wakeChannel hl
  · exact hsignature

theorem testsKept_actLine {c : Chan} {s : State} (hl : (chanAt s c).life = .dark) (o : ProbeOutcome) :
    TestsKept s (actLine c o s) := by
  have hline : ∀ r, TestsKept s (modChan c (fun ch => { ch with line := r }) s) := fun r =>
    testsKept_modChan_same rfl rfl rfl rfl
  cases o with
  | short => exact (hline _).trans (testsKept_enterFaulted ..)
  | foreign => exact (hline _).trans (testsKept_enterFaulted ..)
  | signature => exact testsKept_signature hl
  | openLine => exact hline _
  | clear | crossed | cancelled | notQueued => exact .refl s

theorem testsKept_setPair (c : Chan) (r : PairResult) (s : State) : TestsKept s (modChan c (fun ch => { ch with pair := r }) s) :=
  testsKept_modChan_same rfl rfl rfl rfl

theorem testsKept_crossChannel (c partner : Chan) (s : State) : TestsKept s (crossChannel c partner s) :=
  (testsKept_setPair ..).trans (testsKept_enterFaulted ..)

theorem testsKept_actPair (c partner : Chan) (crossed : Bool) (s : State) : TestsKept s (actPair c partner crossed s) := by
  refine .ite ?_ (testsKept_setPair ..)
  exact .ite ((testsKept_crossChannel ..).trans (testsKept_crossChannel ..)) (testsKept_crossChannel ..)

theorem testsKept_endProbe (r : ProbeRequest) (o : ProbeOutcome) (v : Option Nat) (s : State) :
    TestsKept s (reportProbe r o v { s with probe := none }) := testsKept_of_channels (reportProbe_channels ..)

theorem testsKept_probeEndLine (reading : Nat) (s : State) : TestsKept s (probeEndLine reading s) := by
  unfold probeEndLine
  split
  · refine .ite (TestsKept.trans ?_ (testsKept_look _)) (.refl s)
    split
    · exact (testsKept_endProbe ..).trans (testsKept_actLine ‹_› _)
    · exact testsKept_endProbe ..
  · exact .refl s

theorem testsKept_probeEndPair (reading : Nat) (s : State) : TestsKept s (probeEndPair reading s) := by
  unfold probeEndPair
  split
  · refine .ite (TestsKept.trans ?_ (testsKept_look _)) (.refl s)
    exact .ite ((testsKept_endProbe ..).trans (testsKept_actPair ..)) (testsKept_endProbe ..)
  · exact .refl s

end Sys2Proof.Machine
end

/-! ## What the steps of a port are made of: commands, and writes of the port's own registers

`PortOnly s t`: from `s` to `t` only registers of the ports moved. `Runs s t`: that and commands, one after another. So what
every command keeps, and the ports' registers do not enter, every command and framing step of a port keeps. -/

section
namespace Sys2Proof.Machine

/-- Only the ports' state and framing move. -/
def PortOnly (s t : State) : Prop :=
  t = { s with service := t.service, energy := t.energy, transaction := t.transaction, sdo := t.sdo, bus := t.bus,
               assembly := t.assembly, readPos := t.readPos, sda := t.sda, ackOut := t.ackOut }

/-- Registers of the ports move, and commands run. -/
inductive Runs : State → State → Prop
  | framed {s t : State} (h : PortOnly s t) : Runs s t
  | command (cmd : Cmd) (p : Port) (args : List Word) (s : State) : Runs s (runCommand cmd p args s)
  | trans {s t u : State} (h : Runs s t) (k : Runs t u) : Runs s u

/-- An invariant of commands and of the ports' registers is kept by whatever is made of them. -/
theorem Runs.keeps {I : State → Prop} (hframed : ∀ {s t}, PortOnly s t → I s → I t)
    (hcommand : ∀ cmd p args s, I s → I (runCommand cmd p args s)) {s t : State} (h : Runs s t) : I s → I t := by
  induction h with
  | framed h => exact hframed h
  | command cmd p args s => exact hcommand cmd p args s
  | trans _ _ ih1 ih2 => exact ih2 ∘ ih1

theorem Runs.refl (s : State) : Runs s s := .framed rfl

theorem Runs.ite {s t u : State} {q : Prop} [Decidable q] (ht : Runs s t) (hu : Runs s u) : Runs s (if q then t else u) := by
  split <;> assumption

theorem portOnly_reply (p : Port) (k : Byte) (o : ReplyCode) (ws : List Word) (s : State) : PortOnly s (reply p k o ws s) := by
  cases p <;> rfl

theorem runs_refuseUnknown (p : Port) (code : Byte) (s : State) : Runs s (refuseUnknown p code s) :=
  .framed (portOnly_reply ..)

theorem runs_passWord (t : ServiceTransaction) (f : ServiceTransaction → ServiceTransaction) (s : State) :
    Runs s (passWord t f s) := .framed rfl

theorem runs_assembly (a : Assembly) (s : State) : Runs s { s with assembly := a } :=
  .framed (s := s) (t := { s with assembly := a }) rfl

theorem runs_countByte (n : Nat) (s : State) : Runs s (countByte n s) := .framed rfl

theorem runs_bus (bus : BusState) (ack : Bool) (s : State) : Runs s { s with bus := bus, ackOut := ack } :=
  .framed (s := s) (t := { s with bus := bus, ackOut := ack }) rfl

/-! ### The service port -/

theorem runs_serviceWord (w : Word) (s : State) : Runs s (serviceWord w s) := by
  unfold serviceWord
  split
  · exact .refl s
  · split
    · exact runs_passWord ..
    · split
      · split
        · exact (runs_passWord ..).trans (runs_refuseUnknown ..)
        · exact .ite ((runs_passWord ..).trans (.command ..)) (runs_passWord ..)
      · split
        · exact runs_passWord ..
        · exact .ite ((runs_passWord ..).trans (.command ..)) (runs_passWord ..)

theorem runs_serviceSelect (s : State) : Runs s (serviceSelect s) := by
  refine .framed ?_
  unfold serviceSelect
  split <;> rfl

theorem runs_serviceDeselect (s : State) : Runs s (serviceDeselect s) := by
  refine .framed ?_
  unfold serviceDeselect
  split
  · rfl
  · simp only
    split
    · rfl
    · split <;> rfl

/-! ### The energy port -/

theorem runs_joinByte (b : Byte) (s : State) : Runs s (joinByte b s) := by
  unfold joinByte
  simp only
  split
  · exact .refl s
  · split
    · exact runs_assembly ..
    · refine .ite ?_ (runs_assembly ..)
      split
      · exact (runs_assembly .reset s).trans (.command ..)
      · exact runs_assembly ..

theorem runs_flushLone (s : State) : Runs s (flushLone s) := .ite ((runs_assembly ..).trans (runs_joinByte ..)) (.refl s)

theorem runs_takeCommandByte (b : Byte) (s : State) : Runs s (takeCommandByte b s) := by
  unfold takeCommandByte
  split
  · exact runs_refuseUnknown ..
  · exact .ite (.command ..) (runs_assembly ..)

theorem runs_energyByte (b : Byte) (s : State) : Runs s (energyByte b s) := by
  unfold energyByte
  split
  · exact .refl s
  · exact .refl s
  · rename_i n _
    refine ((runs_flushLone s).trans (runs_countByte n _)).trans ?_
    exact .ite (runs_takeCommandByte ..) (.ite (runs_assembly ..) (runs_joinByte ..))

theorem runs_energyStop (s : State) : Runs s (energyStop s) := by
  have hlone : Runs s (loneStatus s) := (runs_assembly .reset s).trans (.command .status .energy [] _)
  unfold energyStop
  split
  · exact Runs.trans (.ite hlone (.refl s)) (runs_bus ..)
  · exact runs_bus ..
  · exact runs_bus ..

theorem runs_energyAddressed (b : Byte) (s : State) : Runs s (energyAddressed b s) :=
  (runs_energyStop s).trans (.ite (runs_bus ..) (runs_bus ..))

theorem runs_energyReadByte (s : State) : Runs s (energyReadByte s) := by
  refine .framed ?_
  unfold energyReadByte
  split
  · rfl
  · rfl
  · split
    · rfl
    · simp only
      split <;> rfl

theorem runs_commandTaken (p : Port) (s : State) : Runs s (commandTaken p s) := by
  cases p with
  | service =>
    obtain ⟨tr, sd, h⟩ := commandTaken_service_frame s
    rw [h]
    exact .framed (s := s) (t := { s with transaction := tr, sdo := sd }) rfl
  | energy =>
    unfold commandTaken
    simp only
    split
    · exact ((runs_flushLone s).trans (runs_countByte ..)).trans (runs_assembly ..)
    · exact runs_flushLone s
    · exact runs_flushLone s

/-! ### Every step of a port -/

theorem runs_whenLive {s t : State} (h : Runs s t) : AnswersWith Runs s (whenLive s t) := ⟨_, rfl, .ite (.refl s) h⟩

theorem runs_atPort (cmd : Cmd) (p : Port) (args : List Word) (s : State) :
    AnswersWith Runs s (.next (atPort p cmd args (runCommand cmd p args) s)) :=
  ⟨_, rfl, .ite ((runs_commandTaken p s).trans (.command ..)) (.refl s)⟩

theorem runs_unknownCommand (p : Port) (code : Byte) (s : State) : AnswersWith Runs s (execUnknownCommand p code s) :=
  ⟨_, rfl, .ite ((runs_commandTaken p s).trans (runs_refuseUnknown ..)) (.refl s)⟩

theorem runs_status (p : Port) (s : State) : AnswersWith Runs s (execStatus p s) := by
  refine ⟨_, rfl, .ite ?_ (.ite ((runs_commandTaken p s).trans (.framed (portOnly_reply ..))) (.refl s))⟩
  exact Runs.trans (.ite (.refl s) (runs_energyByte ..)) (runs_energyStop _)

theorem exec_runs {i : Instr} {p : Port} (hp : commandPort i = some p) (s : State) : AnswersWith Runs s (exec i s) := by
  cases i with
  | serviceSelect => exact runs_whenLive (runs_serviceSelect s)
  | serviceDeselect => exact runs_whenLive (runs_serviceDeselect s)
  | serviceWordCompletion w => exact runs_whenLive (runs_serviceWord w s)
  | energyAddressByte b => exact runs_whenLive (runs_energyAddressed b s)
  | energyCommandByte b => exact runs_whenLive (.ite (runs_energyByte b s) (.refl s))
  | energyArgumentByte b => exact runs_whenLive (.ite (runs_energyByte b s) (.refl s))
  | energyReadByte => exact runs_whenLive (runs_energyReadByte s)
  | energyStopCondition => exact runs_whenLive (runs_energyStop s)
  | unknownCommand q code => exact runs_unknownCommand q code s
  | status q => exact runs_status q s
  | nop q => exact runs_atPort .nop q [] s
  | seek q a => exact runs_atPort .seek q [a] s
  | read q a => exact runs_atPort .read q [a] s
  | take q => exact runs_atPort .take q [] s
  | ack q a => exact runs_atPort .ack q [a] s
  | mask q a => exact runs_atPort .mask q [a] s
  | watermark q a => exact runs_atPort .watermark q [a] s
  | vote q a => exact runs_atPort .vote q [a] s
  | resetPort q => exact runs_atPort .resetPort q [] s
  | post q a b => exact runs_atPort .post q [a, b] s
  | cancelEdits q => exact runs_atPort .cancelEdits q [] s
  | probe q a => exact runs_atPort .probe q [a] s
  | wake q a => exact runs_atPort .wake q [a] s
  | retire q a => exact runs_atPort .retire q [a] s
  | release q a => exact runs_atPort .release q [a] s
  | clearFault q a => exact runs_atPort .clearFault q [a] s
  | test q a => exact runs_atPort .test q [a] s
  | abortTest q a => exact runs_atPort .abortTest q [a] s
  | send q a => exact runs_atPort .send q [a] s
  | setGrant q a => exact runs_atPort .setGrant q [a] s
  | deposit q a => exact runs_atPort .deposit q [a] s
  | drain q => exact runs_atPort .drain q [] s
  | _ => cases hp

end Sys2Proof.Machine
end

/-! ## Every step keeps tests, mailboxes and exchanges with their channels (R95, R106, R118, R133) -/

section
namespace Sys2Proof.Machine

/-! ### Commands -/

/-- The other commands of a port write no channel. -/
theorem testsKept_done (p : Port) (cmd : Cmd) (ws : List Word) (s : State) : TestsKept s (done p cmd ws s) :=
  testsKept_of_channels (done_channels ..)

theorem testsKept_refuse (p : Port) (cmd : Cmd) (o : ReplyCode) (s : State) : TestsKept s (refuse p cmd o s) :=
  testsKept_of_channels (refuse_channels ..)

theorem testsKept_feedOff (changer : Port) (portReset : Bool) (s : State) : TestsKept s (feedOff changer portReset s) :=
  testsKept_of_each fun c h => by
    rw [chanAt_feedOff]
    exact (h.withExchange (e' := none) nofun).of_same rfl rfl rfl rfl

theorem testsKept_doVote (p : Port) (arg : Word) (s : State) : TestsKept s (doVote p arg s) := by
  have hset : ∀ on, TestsKept s (setVote p on s) := fun _ => testsKept_of_channels (modPort_channels ..)
  unfold doVote
  split
  · exact TestsKept.trans (.ite ((hset false).trans (testsKept_feedOff ..)) (hset false)) (testsKept_done ..)
  · exact TestsKept.trans (.ite ((hset true).trans (testsKept_of_channels (feedOn_channels ..))) (hset true)) (testsKept_done ..)
  · exact testsKept_refuse ..

theorem testsKept_doResetPort (p : Port) (s : State) : TestsKept s (doResetPort p s) := by
  have hcleared : TestsKept s (portCleared p s) := testsKept_of_channels (portCleared_frame p s).2.2.1
  exact TestsKept.trans (.ite (hcleared.trans (testsKept_feedOff ..)) hcleared) (testsKept_done ..)

theorem testsKept_channelCommand {p : Port} {cmd : Cmd} {arg : Word} {s : State} {act : Chan → State}
    (h : ∀ c, TestsKept s (act c)) : TestsKept s (channelCommand p cmd arg s act) := by
  refine .ite ?_ (testsKept_refuse ..)
  split
  · exact h _
  · exact testsKept_refuse ..

/-- A change answered DONE with the channel's state. -/
theorem TestsKept.doneChan {s t : State} (h : TestsKept s t) (p : Port) (cmd : Cmd) (c : Chan) :
    TestsKept s (doneChan p cmd c t) := h.trans (testsKept_done ..)

theorem testsKept_doProbe (p : Port) (arg : Word) (s : State) : TestsKept s (doProbe p arg s) := by
  refine testsKept_channelCommand fun c => .ite (testsKept_refuse ..) (.ite (testsKept_refuse ..) ?_)
  have happend : ∀ r, TestsKept s (appendProbe r s) := fun r => testsKept_of_channels (look_channels _)
  exact .ite (testsKept_done ..) (.ite ((happend _).trans (testsKept_done ..)) (testsKept_refuse ..))

theorem testsKept_doWake (p : Port) (arg : Word) (s : State) : TestsKept s (doWake p arg s) := by
  refine testsKept_channelCommand fun c => ?_
  simp only
  split
  · rename_i hdark
    have hwake : TestsKept s (modChan c wakeChannel s) := testsKept_modChan fun h => h.wakeChannel hdark.1
    exact (hwake.trans (testsKept_cancelProbe ..)).doneChan ..
  · exact testsKept_refuse ..

theorem testsKept_doRetire (p : Port) (arg : Word) (s : State) : TestsKept s (doRetire p arg s) :=
  testsKept_channelCommand fun _ =>
    .ite (testsKept_refuse ..) (((testsKept_enterRetired ..).trans (testsKept_cancelProbe ..)).doneChan ..)

theorem testsKept_doRelease (p : Port) (arg : Word) (s : State) : TestsKept s (doRelease p arg s) := by
  refine testsKept_channelCommand fun c => .ite ?_ (testsKept_refuse ..)
  have hstrikes : TestsKept s (modChan c (fun ch => { ch with strikes := 0 }) s) := testsKept_modChan_same rfl rfl rfl rfl
  exact (hstrikes.trans (testsKept_enterDark ..)).doneChan ..

theorem testsKept_doClearFault (p : Port) (arg : Word) (s : State) : TestsKept s (doClearFault p arg s) :=
  testsKept_channelCommand fun _ =>
    .ite (testsKept_refuse ..) (.ite ((testsKept_enterDark ..).doneChan ..) (testsKept_refuse ..))

theorem testsKept_doTest (p : Port) (arg : Word) (s : State) : TestsKept s (doTest p arg s) := by
  refine testsKept_channelCommand fun c => .ite (testsKept_refuse ..) ?_
  split
  · exact testsKept_refuse ..
  · rename_i hfed
    split
    · exact testsKept_refuse ..
    · rename_i hempty
      refine .ite (testsKept_refuse ..) (TestsKept.doneChan (testsKept_modChan fun h => ?_) ..)
      exact h.requestTest (Decidable.not_not.1 hfed) (by simpa using hempty) _

theorem testsKept_doAbortTest (p : Port) (arg : Word) (s : State) : TestsKept s (doAbortTest p arg s) := by
  refine testsKept_channelCommand fun c => ?_
  simp only
  split
  · exact testsKept_refuse ..
  · rename_i k hk
    split
    · rename_i hphase
      split
      · exact testsKept_refuse ..
      · rename_i hline
        refine TestsKept.doneChan (testsKept_of_one c (fun d hd => by rw [chanAt_endTest, if_neg hd]) fun h => ?_) ..
        rw [chanAt_endTest, if_pos rfl]
        refine (h.withdrawTest hk hphase fun e he hcmd => hline ?_).of_same rfl rfl ?_ rfl
        · simp [beginTestInFlight, he, hcmd]
        · simp [hk, (h.requested k hk hphase).2]
    · rename_i hphase
      exact TestsKept.doneChan (testsKept_modChan fun h => h.resumeChannel hk hphase true) ..
    · exact testsKept_refuse ..

/-- SEND carries no BEGIN_TEST (R118). -/
theorem sendCmdOf_ne_beginTest {n : Nat} {d : DownCmd} (h : sendCmdOf n = some d) : d ≠ .beginTest := by
  unfold sendCmdOf at h
  split at h <;> cases h <;> decide

theorem testsKept_doSend (p : Port) (arg : Word) (s : State) : TestsKept s (doSend p arg s) := by
  refine testsKept_channelCommand fun c => ?_
  simp only
  split
  · exact testsKept_refuse ..
  · rename_i d hd
    refine .ite (testsKept_refuse ..) ?_
    split
    · exact testsKept_refuse ..
    · rename_i hfed
      split
      · exact testsKept_refuse ..
      · rename_i hempty
        refine TestsKept.doneChan (testsKept_modChan fun h => ?_) ..
        exact h.withMailbox (Decidable.not_not.1 hfed) (by simpa using hempty) (sendCmdOf_ne_beginTest hd)

theorem testsKept_runCommand (cmd : Cmd) (p : Port) (args : List Word) (s : State) : TestsKept s (runCommand cmd p args s) := by
  cases cmd with
  | nop => exact testsKept_done ..
  | status => exact testsKept_done ..
  | seek => exact testsKept_of_channels (doSeek_channels ..)
  | read => exact testsKept_of_channels (doRead_channels ..)
  | take => exact testsKept_of_channels (doTake_channels ..)
  | ack => exact testsKept_of_channels (by simp [runCommand, doAck])
  | mask => exact testsKept_of_channels (by simp [runCommand, doMask])
  | watermark => exact testsKept_of_channels (doWatermark_channels ..)
  | vote => exact testsKept_doVote ..
  | resetPort => exact testsKept_doResetPort ..
  | post => exact testsKept_of_channels (doPost_channels ..)
  | cancelEdits => exact testsKept_of_channels (by simp [runCommand, doCancelEdits, removeEdits])
  | probe => exact testsKept_doProbe ..
  | wake => exact testsKept_doWake ..
  | retire => exact testsKept_doRetire ..
  | release => exact testsKept_doRelease ..
  | clearFault => exact testsKept_doClearFault ..
  | test => exact testsKept_doTest ..
  | abortTest => exact testsKept_doAbortTest ..
  | send => exact testsKept_doSend ..
  | setGrant => exact testsKept_of_channels (doSetGrant_channels ..)
  | deposit => exact testsKept_of_channels (doDeposit_channels ..)
  | drain => exact testsKept_of_channels (doDrain_channels ..)

theorem Runs.testsKept {s t : State} (h : Runs s t) : TestsKept s t :=
  ⟨h.keeps (fun hp => (testsKept_of_channels (congrArg State.channels hp :)).tests)
    fun cmd p args s => (testsKept_runCommand cmd p args s).tests⟩

/-! ### The steps of the timebase -/

theorem testsKept_sampleEvent (bus : Nat) (readings : Vector Reading 24) (s : State) :
    TestsKept s (sampleEvent bus readings s) := testsKept_of_each fun c h => by
  obtain ⟨m, so, n, due, he⟩ := sampleChannel_frame (s.ms + 1) (min bus 6000) readings[c] (chanAt s c)
  rw [chanAt_sampleEvent, he]
  refine (h.withExchange fun x hx => ?_).of_same rfl rfl rfl rfl
  obtain ⟨e, hsome, rfl⟩ := Option.map_eq_some_iff.1 hx
  obtain ⟨ms, hmarks, -⟩ := receiveMark_frame (s.ms + 1) readings[c].average e
  rw [hmarks]
  exact ⟨e, hsome, rfl, rfl⟩

theorem testsKept_slotEnd (s : State) : TestsKept s (slotEnd s) := testsKept_of_each fun c h => by
  rw [chanAt_slotEnd]
  refine TestFacts.of_same (x := chanAt (s.admitted.foldl closeEntry s) c) ?_ rfl rfl rfl rfl
  refine List.foldlRecOn s.admitted closeEntry (motive := fun u => TestFacts (chanAt u c)) h fun u hu e _ => ?_
  rw [chanAt_closeEntry]
  split
  · exact hu.of_same rfl rfl rfl rfl
  · exact hu

theorem testsKept_frameOpening (s : State) : TestsKept s (frameOpening s) := testsKept_of_each fun c h => by
  rw [chanAt_frameOpening]
  refine TestFacts.countFrame ?_
  refine List.foldlRecOn s.edits applyEdit (motive := fun u => TestFacts (chanAt u c)) h fun u hu e _ => ?_
  rcases chanAt_applyEdit u e c with heq | ⟨cfg, t, -, heq⟩
  · rw [heq]
    exact hu
  · rw [heq]
    exact hu.of_same rfl rfl rfl rfl

theorem TestFacts.slotStartChannel {ch : Channel} (h : TestFacts ch) (g : Globals) (now len : Nat) (listed exchange : Bool) :
    TestFacts (slotStartChannel g now len listed exchange ch) := by
  cases listed
  · rw [slotStartChannel_of_unlisted]
    exact h.of_same rfl rfl rfl rfl
  · rw [slotStartChannel_of_listed]
    exact h.of_same rfl rfl rfl rfl

theorem testsKept_beginSlot (s : State) : TestsKept s (beginSlot s) := by
  have hadmitted : TestsKept s (slotAdmitted s) := testsKept_of_each fun c h => by
    obtain ⟨n, hn, -⟩ := chanAt_countSheds_range (slotBudget s).shed (slotBase s) c
    rw [chanAt_slotAdmitted, hn, chanAt_slotBase]
    exact (h.of_same rfl rfl rfl rfl : TestFacts { chanAt s c with shed := n }).slotStartChannel ..
  rw [beginSlot_eq]
  exact .ite (hadmitted.trans (testsKept_look _)) hadmitted

/-- The release and the slot index are no channel's. -/
theorem testsKept_startWrite (r : Bool) (index : Nat) (adr1 adr0 : Bool) (s : State) :
    TestsKept s { s with inReset := r, slotIndex := index, strap1 := adr1, strap0 := adr0 } := testsKept_of_channels rfl

/-! ### Every step -/

theorem testsKept_whenLive {s t : State} (h : TestsKept s t) : AnswersWith TestsKept s (whenLive s t) :=
  ⟨_, rfl, .ite (.refl s) h⟩

theorem exec_testsKept (i : Instr) (s : State) : AnswersWith TestsKept s (exec i s) := by
  cases hp : commandPort i with
  | some p =>
    obtain ⟨t, ht, hruns⟩ := exec_runs hp s
    exact ⟨t, ht, hruns.testsKept⟩
  | none =>
    cases i with
    | deviceReset => exact ⟨_, rfl, ⟨fun _ => testsMatch_reset s.pending s.freeCount⟩⟩
    | resetRelease adr1 adr0 =>
      exact ⟨_, rfl, .ite ((testsKept_startWrite false s.slotIndex adr1 adr0 s).trans (testsKept_beginSlot _)) (.refl s)⟩
    | sampleEvent bus readings => exact testsKept_whenLive (.ite (testsKept_sampleEvent ..) (.refl s))
    | slotEnd => exact testsKept_whenLive (.ite (testsKept_slotEnd s) (.refl s))
    | frameOpening => exact testsKept_whenLive (.ite (testsKept_frameOpening s) (.refl s))
    | slotStart =>
      refine testsKept_whenLive ?_
      split
      · rename_i hready
        rw [slotStart_eq hready]
        exact (testsKept_startWrite s.inReset _ s.strap1 s.strap0 s).trans (testsKept_beginSlot _)
      · exact .refl s
    | openLoadLost c => exact testsKept_whenLive (testsKept_openLoadLost c s)
    | switchOnComplete c => exact testsKept_whenLive (testsKept_switchOnComplete c s)
    | rampEnd c => exact testsKept_whenLive (testsKept_rampEnd c s)
    | chopPeriodStart c => exact testsKept_whenLive (testsKept_chopPeriodStart c s)
    | tripAssert c => exact testsKept_whenLive (testsKept_tripAssert c s)
    | overcurrentAssert c => exact testsKept_whenLive (testsKept_overcurrentAssert c s)
    | detectorLevelCrossing c current instant => exact testsKept_whenLive (testsKept_levelCrossing c current instant s)
    | exchangeStart c => exact testsKept_whenLive (testsKept_exchangeStart c s)
    | downlinkEnd c b => exact testsKept_whenLive (testsKept_downlinkEnd c b s)
    | answerStart c instant rise => exact testsKept_whenLive (testsKept_answerStart c instant rise s)
    | windowExpiry c => exact testsKept_whenLive (testsKept_windowExpiry c s)
    | uplinkEnd c average => exact testsKept_whenLive (testsKept_uplinkEnd c average s)
    | probeEndLine reading => exact testsKept_whenLive (testsKept_probeEndLine reading s)
    | probeEndPair reading => exact testsKept_whenLive (testsKept_probeEndPair reading.val s)
    | _ => cases hp

/-- Settles O57: every step keeps each channel's test, mailbox and exchange as its state has them. -/
theorem testsKeepMatching : Obligations.TestsKeepMatching := by
  unfold Obligations.TestsKeepMatching
  intro s t hs h
  unfold step at h
  split at h
  · cases h
    exact hs
  · rename_i i rest _
    exact ((exec_testsKept i _).elim h).tests hs

end Sys2Proof.Machine
end

/-! ## Entries to DARK, FAULTED and RETIRED (R94 to R97, R99, R123, R144) -/

section
namespace Sys2Proof.Machine

/-! ### The records of an entry -/

theorem entryRecords_eq (own : Option ReportBody) (o : TestOutcome) (ch : Channel) : entryRecords own o ch =
    own.toList ++ ch.test.toList.map (testEnding o · 0) ++
      (if ch.test.isSome then ch.mailbox.filter fun m => m.cmd ≠ .beginTest else ch.mailbox).toList.map
        (ReportBody.mailboxDone .dropped · 0 none) := by
  have htest : (match ch.test with
      | some t => [testEnding o t 0]
      | none => []) = ch.test.toList.map (testEnding o · 0) := by cases ch.test <;> rfl
  unfold entryRecords
  rw [← htest]
  generalize (if ch.test.isSome then ch.mailbox.filter fun m => m.cmd ≠ .beginTest else ch.mailbox) = m
  cases m <;> rfl

/-- The records of an entry follow from the test and the mailbox alone. -/
theorem entryRecords_congr {x y : Channel} (ht : y.test = x.test) (hm : y.mailbox = x.mailbox) (own : Option ReportBody)
    (o : TestOutcome) : entryRecords own o y = entryRecords own o x := by rw [entryRecords_eq, entryRecords_eq, ht, hm]

/-- A state in which a channel's records have been entered: nothing but the channels and the service port differs. -/
def Recorded (c : Chan) (bodies : List ReportBody) (s t : State) : Prop :=
  t = { s with channels := t.channels, service := withRecords s.frame s.slotIndex c bodies s.service }

theorem Recorded.trans {c : Chan} {as bs : List ReportBody} {s t u : State} (h : Recorded c as s t) (k : Recorded c bs t u) :
    Recorded c (as ++ bs) s u := by
  unfold Recorded at h k ⊢
  rw [k, h, withRecords_append]

theorem recorded_setChan (c d : Chan) (x : Channel) (s : State) : Recorded c [] s (setChan d x s) := rfl

theorem recorded_modChan (c d : Chan) (f : Channel → Channel) (s : State) : Recorded c [] s (modChan d f s) := rfl

theorem recorded_reportChan (c : Chan) (b : ReportBody) (s : State) : Recorded c [b] s (reportChan c b s) := rfl

theorem recorded_reportOwn (c : Chan) (own : Option ReportBody) (s : State) :
    Recorded c own.toList s (reportOwn c own s) := by cases own <;> rfl

theorem recorded_endTest (c : Chan) (o : TestOutcome) (s : State) :
    Recorded c ((chanAt s c).test.toList.map (testEnding o · 0)) s (endTest c o s) := by
  unfold endTest
  split
  · rename_i t ht
    rw [ht]
    exact (recorded_modChan ..).trans (recorded_reportChan ..)
  · rename_i ht
    rw [ht]
    rfl

theorem recorded_dropMailbox (c : Chan) (s : State) :
    Recorded c ((chanAt s c).mailbox.toList.map (ReportBody.mailboxDone .dropped · 0 none)) s (dropMailbox c s) := by
  unfold dropMailbox
  split
  · rename_i m hm
    rw [hm]
    exact (recorded_modChan ..).trans (recorded_reportChan ..)
  · rename_i hm
    rw [hm]
    rfl

/-- The steps of R95 enter the records of the entry, and change nothing else but their channel. -/
theorem recorded_settleUnpowered (c : Chan) (own : Option ReportBody) (o : TestOutcome) (s : State) :
    Recorded c (entryRecords own o (chanAt s c)) s (settleUnpowered c own o s) := by
  have hown := recorded_reportOwn c own s
  have htest := recorded_endTest c o (reportOwn c own s)
  have hmail := recorded_dropMailbox c (endTest c o (reportOwn c own s))
  rw [chanAt_reportOwn] at htest
  rw [chanAt_endTest, if_pos rfl, chanAt_reportOwn] at hmail
  have hstale : Recorded c [] (dropMailbox c (endTest c o (reportOwn c own s))) (settleUnpowered c own o s) := rfl
  rw [entryRecords_eq, ← List.append_nil (_ ++ _)]
  exact ((hown.trans htest).trans hmail).trans hstale

/-! ### What an entry leaves of its channel -/

theorem departed_mailbox (g : Globals) (now : Nat) (ch : Channel) : (departed g now ch).mailbox = ch.mailbox := by
  unfold departed
  split <;> rfl

theorem departedFrom_departed (g : Globals) (now : Nat) (ch : Channel) : DepartedFrom g now ch (departed g now ch) := by
  unfold DepartedFrom departed
  split
  · exact ⟨openSwitch_openedFrom g now ch.sw, rfl, rfl, rfl⟩
  · exact ⟨rfl, rfl, rfl, rfl⟩

/-- A departure leaves everything of a channel but its switch, exchange and sampling. -/
theorem departed_frame (g : Globals) (now : Nat) (ch : Channel) : departed g now ch =
    { ch with
      placement := (departed g now ch).placement
      exchange := (departed g now ch).exchange
      exchangeMs := (departed g now ch).exchangeMs
      sw := (departed g now ch).sw
      meter := (departed g now ch).meter
      lostDue := (departed g now ch).lostDue } := by
  unfold departed
  split <;> rfl

/-- Whatever state, cause, results and strikes a transition gives its channel, the steps of R94 and R95 leave the rest. -/
theorem unpoweredEntry_settled (g : Globals) (now : Nat) (ch : Channel) (life : Life) (cause : StateCause) (line : LineResult)
    (pair : PairResult) (strikes : Nat) : UnpoweredEntry g now ch (settled { departed g now ch with
      life := life, cause := cause, line := line, pair := pair, strikes := strikes }) := by
  refine ⟨departedFrom_departed g now ch, ?_⟩
  rw [departed_frame]
  rfl

/-- An entry that gives its channel `y` and then settles it: its records, the other channels, its own. -/
theorem settleUnpowered_of_departed {c : Chan} {s : State} {y : Channel}
    (hy : y = { departed s.globals s.ms (chanAt s c) with
      life := y.life, cause := y.cause, line := y.line, pair := y.pair, strikes := y.strikes })
    (own : Option ReportBody) (o : TestOutcome) {u : State} (hu : u = settleUnpowered c own o (setChan c y s)) :
    Recorded c (entryRecords own o (chanAt s c)) s u ∧ (∀ d, d ≠ c → chanAt u d = chanAt s d) ∧
      UnpoweredEntry s.globals s.ms (chanAt s c) (chanAt u c) ∧ chanAt u c = settled y := by
  have hself : chanAt u c = settled y := by rw [hu, chanAt_settleUnpowered, if_pos rfl, chanAt_setChan_self]
  have hrecords := (recorded_setChan c c y s).trans (recorded_settleUnpowered c own o (setChan c y s))
  have hsame : entryRecords own o y = entryRecords own o (chanAt s c) := by
    rw [hy]
    exact entryRecords_congr (departed_test ..) (departed_mailbox ..) own o
  rw [chanAt_setChan_self, hsame, List.nil_append, ← hu] at hrecords
  refine ⟨hrecords, fun d hd => ?_, ?_, hself⟩
  · rw [hu, chanAt_settleUnpowered, if_neg hd, chanAt_setChan_other hd]
  · rw [hself, hy]
    exact unpoweredEntry_settled ..

/-! ### The three entries -/

theorem queuesLine_iff (cause : StateCause) :
    queuesLine cause = true ↔ cause = .silent ∨ cause = .openLoad ∨ cause = .cleared ∨ cause = .released := by
  simp [queuesLine, or_assoc]

theorem enterDark_eq (c : Chan) (cause : StateCause) (own : Option ReportBody) (o : TestOutcome) (s : State) :
    enterDark c cause own o s =
      if cause = .silent ∨ cause = .openLoad ∨ cause = .cleared ∨ cause = .released then
        requestLine c (settleUnpowered c own o (setChan c (darkResults cause (departed s.globals s.ms (chanAt s c))) s))
      else settleUnpowered c own o (setChan c (darkResults cause (departed s.globals s.ms (chanAt s c))) s) := by
  unfold enterDark
  simp only [depart_eq, modChan, chanAt_setChan_self, setChan_setChan, queuesLine_iff]

theorem enterFaulted_eq (c : Chan) (cause : StateCause) (partner : Option Chan) (s : State) : enterFaulted c cause partner s =
    settleUnpowered c (some (.fault cause (chanAt s c).life (min 3 ((chanAt s c).strikes + 1)) partner)) .faulted
      (setChan c { departed s.globals s.ms (chanAt s c) with
        life := .faulted, cause := cause, strikes := min 3 ((chanAt s c).strikes + 1) } s) := by
  unfold enterFaulted
  simp only [depart_eq, modChan, chanAt_setChan_self, setChan_setChan, lockStrikes]

theorem enterRetired_eq (c : Chan) (s : State) : enterRetired c s =
    settleUnpowered c none .retired (setChan c { departed s.globals s.ms (chanAt s c) with life := .retired } s) := by
  unfold enterRetired
  simp only [depart_eq, modChan, chanAt_setChan_self, setChan_setChan]

theorem departed_results (g : Globals) (now : Nat) (ch : Channel) : (departed g now ch).cause = ch.cause ∧
    (departed g now ch).line = ch.line ∧ (departed g now ch).pair = ch.pair ∧ (departed g now ch).strikes = ch.strikes := by
  rw [departed_frame]
  exact ⟨rfl, rfl, rfl, rfl⟩

/-- Settles O7: the ending of a test by its phase, then the three entries, each settled by R94 and R95. -/
theorem unpoweredEntries : Obligations.UnpoweredEntries := by
  unfold Obligations.UnpoweredEntries
  refine ⟨fun o k code => ?_, fun c cause own o s => ?_, fun c cause partner s => ?_, fun c s => ?_⟩
  · unfold testEnding
    split
    · rename_i h
      rw [h]
    · rfl
  · obtain ⟨-, hline, hpair, hstrikes⟩ := departed_results s.globals s.ms (chanAt s c)
    obtain ⟨hrecords, hother, hentry, hself⟩ :=
      settleUnpowered_of_departed (c := c) (s := s) (y := darkResults cause (departed s.globals s.ms (chanAt s c))) rfl own o rfl
    refine ⟨_, enterDark_eq c cause own o s, hrecords, hother, hentry, ?_⟩
    rw [hself]
    refine ⟨rfl, rfl, ?_, ?_, hstrikes⟩
    · simp only [settled, darkResults, queuesLine_iff, hline]
    · simp only [settled, darkResults, Bool.or_eq_true, decide_eq_true_eq, hpair]
  · intro u strikes
    obtain ⟨-, hline, hpair, -⟩ := departed_results s.globals s.ms (chanAt s c)
    obtain ⟨hrecords, hother, hentry, hself⟩ := settleUnpowered_of_departed rfl _ _ (enterFaulted_eq c cause partner s)
    refine ⟨hrecords, hother, hentry, ?_⟩
    rw [hself]
    exact ⟨rfl, rfl, rfl, hline, hpair⟩
  · intro u
    obtain ⟨hcause, hline, hpair, hstrikes⟩ := departed_results s.globals s.ms (chanAt s c)
    obtain ⟨hrecords, hother, hentry, hself⟩ := settleUnpowered_of_departed rfl _ _ (enterRetired_eq c s)
    refine ⟨hrecords, hother, hentry, ?_⟩
    rw [hself]
    exact ⟨rfl, hcause, hstrikes, hline, hpair⟩

end Sys2Proof.Machine
end

/-! ## The end of an exchange: a miss, and a valid answer that moves its channel (R91, R92, R108, R112 to R119, R136, R142) -/

section
namespace Sys2Proof.Machine

/-! ### A miss (R91, R92) -/

theorem countAttempt_eq (c : Chan) (s : State) : countAttempt c s =
    if (chanAt s c).cfg.wakeLimit ≤ (chanAt s c).attempts + 1 then
      enterDark c .wakeFailed (some (.wakeResult false ((chanAt s c).attempts + 1) 0)) .noAnswer
        (setChan c { chanAt s c with attempts := (chanAt s c).attempts + 1 } s)
    else setChan c { chanAt s c with attempts := (chanAt s c).attempts + 1 } s := by
  unfold countAttempt
  simp only [modChan, chanAt_setChan_self]

theorem countMiss_eq (c : Chan) (s : State) : countMiss c s =
    if 3 ≤ (chanAt s c).misses + 1 then
      enterDark c .silent
        (if (chanAt s c).life = .fed then some (.lost .silent ((chanAt s c).status.map StatusRecord.lastAnswer)) else none)
        .noAnswer (setChan c { chanAt s c with misses := (chanAt s c).misses + 1 } s)
    else setChan c { chanAt s c with misses := (chanAt s c).misses + 1 } s := by
  unfold countMiss goSilent
  simp only [modChan, chanAt_setChan_self, silentMisses]
  rfl

theorem missAction_of_waking {c : Chan} {s : State} (h : (chanAt s c).life = .waking) : missAction c s = countAttempt c s := by
  unfold missAction
  rw [h]

theorem missAction_of_fed {c : Chan} {s : State} (h : (chanAt s c).life = .fed ∨ (chanAt s c).life = .resuming) :
    missAction c s = countMiss c s := by
  unfold missAction
  rcases h with h | h <;> rw [h]

/-- The window expires (R108): the exchange has ended, and the miss is its channel's. -/
theorem windowExpiry_of_due {c : Chan} {s : State} {e : Exchange} (he : (chanAt s c).exchange = some e)
    (hp : e.phase = .window) (ht : timely (us (e.start + 52)) s = true) : windowExpiry c s =
      missAction c (setChan c { chanAt s c with
        exchange := none
        exchangeMs := (chanAt s c).exchangeMs || decide (us s.ms < us (e.start + 52)) } s) := by
  have hd : exchangeDeadline e = us (e.start + 52) := by
    rw [exchangeDeadline, hp]
    rfl
  simp [windowExpiry, he, hp, hd, ht, exchangeOutcome, modChan, takeExchange]

/-- Settles O23: the exchange ends, and the miss is counted by the channel's state. -/
theorem windowExpiryCountsMiss : Obligations.WindowExpiryCountsMiss := by
  unfold Obligations.WindowExpiryCountsMiss
  intro c s e hr he hp ht x x' attempt miss
  have hexec : exec (.windowExpiry c) s = .next (missAction c (setChan c x' s)) :=
    (whenLive_of_live hr _).trans (congrArg _ (windowExpiry_of_due he hp ht))
  have hx : chanAt (setChan c x' s) c = x' := chanAt_setChan_self ..
  have hwaking : x.life = .waking → exec (.windowExpiry c) s = .next (countAttempt c (setChan c x' s)) := fun hl => by
    rw [hexec, missAction_of_waking (by rw [hx]; exact hl)]
  have hfed : x.life = .fed ∨ x.life = .resuming → exec (.windowExpiry c) s = .next (countMiss c (setChan c x' s)) :=
    fun hl => by rw [hexec, missAction_of_fed (by rw [hx]; exact hl)]
  simp only [countAttempt_eq, countMiss_eq, hx, setChan_setChan] at hwaking hfed
  refine ⟨fun hl hlt => ?_, fun hl hle => ?_, fun hl hlt => ?_, fun hl hle => ?_, fun hl hle => ?_⟩
  · rw [hwaking hl, if_neg (Nat.not_le.2 hlt)]
  · rw [hwaking hl, if_pos hle]
  · rw [hfed hl, if_neg (Nat.not_le.2 hlt)]
  · rw [hfed (.inl hl), if_pos hle, if_pos hl]
  · rw [hfed (.inr hl), if_pos hle, if_neg (by simp [x', x, hl])]

/-! ### The refresh and its STATUS_CHANGE (R116, R117) -/

theorem refreshed_eq (frame : Nat) (a : Answer) (old : Option StatusRecord) :
    refreshed frame a old = answerRecord frame a old := by
  unfold refreshed answerRecord answerHours
  cases old <;> rfl

theorem priorOf_eq (old : Option StatusRecord) : priorOf old = priorValues old := by cases old <;> rfl

theorem changeDue_eq (a : Answer) (old : Option StatusRecord) : changeDue a old = changeIsDue a old := by
  unfold changeDue priorOf changeIsDue
  cases old with
  | none => rfl
  | some r =>
    cases hs : r.stale with
    | true => simp [hs]
    | false =>
      rw [Bool.eq_iff_iff]
      simp [hs]

/-- The STATUS_CHANGE that an answer makes due (R117). -/
def changeRecords (a : Answer) (old : Option StatusRecord) : List ReportBody :=
  if changeIsDue a old then [.statusChange (answerFields a old) (priorValues old)] else []

theorem reportChange_eq (c : Chan) (a : Answer) (frame : Nat) (old : Option StatusRecord) (s : State) :
    reportChange c a frame old s =
      { s with service := withRecords s.frame s.slotIndex c (changeRecords a old) s.service } := by
  unfold reportChange changeRecords
  rw [changeDue_eq, refreshed_eq, priorOf_eq]
  split <;> rfl

/-! ### A valid answer (R115, R119, R136, R142) -/

/-- A channel that has taken a valid answer, before its own action: no exchange, the refresh, the sequence bit (R112, R116). -/
def answeredChannel (frame : Nat) (a : Answer) (inside : Bool) (ch : Channel) : Channel :=
  { ch with
    exchange := none
    exchangeMs := ch.exchangeMs || inside
    status := some (answerRecord frame a ch.status)
    seq := !ch.seq }

theorem uplinkEnd_of_valid {c : Chan} {average : Nat} {s : State} {e : Exchange} {a : Answer}
    (he : (chanAt s c).exchange = some e) (hp : e.phase = .uplink) (ht : timely (exchangeDeadline e) s = true)
    (hv : classify e.cmd e.seq (e.marks ++ [decide (e.baseline + 10 ≤ average)]) = (.valid, some a)) :
    uplinkEnd c average s = reportChange c a s.frame (chanAt s c).status
      (validAction c { e with marks := e.marks ++ [decide (e.baseline + 10 ≤ average)] } a
        (setChan c (answeredChannel s.frame a (decide (us s.ms < exchangeDeadline e)) (chanAt s c)) s)) := by
  have hmark : loadMark e.baseline average = decide (e.baseline + 10 ≤ average) := rfl
  have hd : exchangeDeadline { e with marks := e.marks ++ [decide (e.baseline + 10 ≤ average)] } = exchangeDeadline e := rfl
  have hdue : (decide (e.phase = .uplink) && timely (exchangeDeadline e) s) = true := by simp [hp, ht]
  simp only [uplinkEnd, he, hdue, if_true, hmark, hv, hd, exchangeOutcome, refreshStatus, modChan, takeExchange,
    chanAt_setChan_self, setChan_setChan, refreshed_eq, setChan_frame]
  rfl

theorem helloAnswer_eq (c : Chan) (a : Answer) (s : State) : helloAnswer c a s =
    { setChan c (feedChannel (chanAt s c)) s with
      service := withRecords s.frame s.slotIndex c [.wakeResult true (chanAt s c).attempts a.payload] s.service } := rfl

theorem setChan_reportChan (c d : Chan) (x : Channel) (b : ReportBody) (s : State) :
    setChan c x (reportChan d b s) = reportChan d b (setChan c x s) := rfl

theorem resultAnswer_of_test {c : Chan} {s : State} {k : TestContext} (hk : (chanAt s c).test = some k) (a : Answer) :
    resultAnswer c a s = { setChan c (feedChannel { chanAt s c with test := none }) s with
      service := withRecords s.frame s.slotIndex c [testComplete k a.band a.payload] s.service } := by
  simp only [resultAnswer, hk, modChan, chanAt_reportChan, chanAt_setChan_self, setChan_reportChan, setChan_setChan]
  rfl

theorem fedAnswer_of_beginTest {e : Exchange} {a : Answer} (hcmd : e.cmd = .beginTest) (ha : a.kind = .ack) (c : Chan)
    (s : State) : fedAnswer c e a s =
      setChan c (testChannel a.band (departed s.globals s.ms { chanAt s c with misses := 0 })) s := by
  simp only [fedAnswer, hcmd, ha, if_true, modChan, depart_eq, chanAt_setChan_self, setChan_setChan, setChan_globals, setChan_ms]

theorem fedAnswer_of_doze {e : Exchange} {a : Answer} (hcmd : e.cmd = .doze) (ha : a.kind = .ack) (c : Chan) (s : State) :
    fedAnswer c e a s =
      enterDark c .dozed (some (.mailboxDone .acked { cmd := .doze, arg := e.arg } a.payload none)) .noAnswer
        (setChan c { chanAt s c with misses := 0, mailbox := none } s) := by
  simp only [fedAnswer, hcmd, ha, if_true, modChan, chanAt_setChan_self, setChan_setChan]

/-- What the ACK to BEGIN_TEST leaves of a powered channel: it has departed, and its test runs (R94, R136). -/
theorem testChannel_departed {x y : Channel} {k : TestContext} (g : Globals) (now band : Nat) (hp : powered x.life = true)
    (hlife : y.life = x.life) (hsw : y.sw = x.sw) (hmeter : y.meter = x.meter) (he : y.exchange = none) (hk : y.test = some k)
    {z : Channel} (hz : z = testChannel band (departed g now { y with misses := 0 })) :
    DepartedFrom g now x z ∧
      z = { y with life := .testing, misses := 0, mailbox := none, lostDue := false, placement := none, sw := z.sw,
                   meter := z.meter,
                   test := some { k with phase := .running, remaining := k.duration, bandBefore := some band } } := by
  have hd : departed g now { y with misses := 0 } = departChannel g now { y with misses := 0 } := by
    rw [departed, if_pos (by rw [hlife, hp])]
  rw [hd] at hz
  subst hz
  constructor
  · rw [DepartedFrom, if_pos hp, ← hsw, ← hmeter]
    exact ⟨openSwitch_openedFrom g now y.sw, rfl, rfl, rfl⟩
  · simp [testChannel, departChannel, endExchange, he, hk]

/-- Settles O27: the exchange ends with its answer, the channel moves by its state and command, the change comes last. -/
theorem validAnswerMovesChannel : Obligations.ValidAnswerMovesChannel := by
  unfold Obligations.ValidAnswerMovesChannel
  intro c average s e a hr he hp ht hv x y change
  obtain ⟨e', hcmd', harg', hexec⟩ : ∃ e' : Exchange, e'.cmd = e.cmd ∧ e'.arg = e.arg ∧
      exec (.uplinkEnd c average) s = .next (reportChange c a s.frame x.status (validAction c e' a (setChan c y s))) :=
    ⟨{ e with marks := e.marks ++ [decide (e.baseline + 10 ≤ average)] }, rfl, rfl,
      (whenLive_of_live hr _).trans (congrArg _ (uplinkEnd_of_valid he hp ht hv))⟩
  have hy : chanAt (setChan c y s) c = y := chanAt_setChan_self ..
  have hchange : change = changeRecords a x.status := rfl
  rw [hchange, hexec, reportChange_eq]
  refine ⟨fun hl => ?_, fun k hl hk => ?_, fun k hl hcmd ha hk => ?_, fun hl hcmd ha => ?_⟩
  · rw [validAction, hy, show y.life = .waking from hl]
    simp only [helloAnswer_eq, hy, setChan_setChan]
    rfl
  · rw [validAction, hy, show y.life = .resuming from hl]
    simp only [resultAnswer_of_test (show (chanAt (setChan c y s) c).test = some k by rw [hy]; exact hk), hy, setChan_setChan]
    rfl
  · rw [validAction, hy, show y.life = .fed from hl]
    simp only [fedAnswer_of_beginTest (hcmd'.trans hcmd) ha, hy, setChan_setChan]
    exact ⟨_, rfl, testChannel_departed (x := x) (y := y) s.globals s.ms a.band (by rw [hl]; rfl) rfl rfl rfl rfl hk rfl⟩
  · intro u
    rw [validAction, hy, show y.life = .fed from hl]
    simp only [fedAnswer_of_doze (hcmd'.trans hcmd) ha, harg', hy, setChan_setChan]
    obtain ⟨z, q, pr, w, sv, hu⟩ := enterDark_frame c .dozed
      (some (.mailboxDone .acked { cmd := .doze, arg := e.arg } a.payload none)) .noAnswer
      (setChan c { y with misses := 0, mailbox := none } s)
    have hframe : u.frame = s.frame := (congrArg State.frame hu).trans rfl
    have hslot : u.slotIndex = s.slotIndex := (congrArg State.slotIndex hu).trans rfl
    rw [← hframe, ← hslot]

end Sys2Proof.Machine
end

/-! ## The channel commands of the service port (R89, R90, R98 to R101, R118, R129, R134, R135, R140) -/

section
namespace Sys2Proof.Machine

/-! ### The channel number and the reply (R101) -/

/-- A channel command that names a channel is left to its own checks. -/
theorem channelCommand_service {cmd : Cmd} {arg : Word} {c : Chan} (hp : cmd.permitted .service = true)
    (hc : (arg.extractLsb' 24 8).toNat = c.val) (s : State) (act : Chan → State) :
    channelCommand .service cmd arg s act = act c :=
  channelCommand_of_chan hp ((congrArg chanOf hc).trans (chanOf_val c)) s act

/-- A channel command that names no channel is refused. -/
theorem channelCommand_of_none {cmd : Cmd} {arg : Word} (hp : cmd.permitted .service = true)
    (hn : 24 ≤ (arg.extractLsb' 24 8).toNat) (s : State) (act : Chan → State) :
    channelCommand .service cmd arg s act = refuse .service cmd .badArgument s := by
  have hnone : argChan arg = none := chanOf_none hn
  simp only [channelCommand, hp, if_true, hnone]

theorem Life.code_lt (l : Life) : l.code < 256 := by cases l <;> decide

theorem lifeWord_eq (s : State) (c : Chan) : lifeWord s c = BitVec.ofNat 32 (chanAt s c).life.code := by
  simp [lifeWord, wordOf, place, Nat.mod_eq_of_lt (Life.code_lt _)]

theorem doneChan_eq (cmd : Cmd) (c : Chan) (s : State) : doneChan .service cmd c s =
    reply .service cmd.code .done [BitVec.ofNat 32 (chanAt s c).life.code] s := by rw [doneChan, done, lifeWord_eq]

/-! ### WAKE, RETIRE, RELEASE, CLEAR_FAULT -/

theorem exec_wake {p : Port} {arg : Word} {s : State} (h : commandDue p .wake [arg] s = true) :
    exec (.wake p arg) s = .next (doWake p arg (commandTaken p s)) := congrArg Host.Outcome.next (atPort_of_due h (doWake p arg))

theorem exec_retire {p : Port} {arg : Word} {s : State} (h : commandDue p .retire [arg] s = true) :
    exec (.retire p arg) s = .next (doRetire p arg (commandTaken p s)) :=
  congrArg Host.Outcome.next (atPort_of_due h (doRetire p arg))

theorem exec_release {p : Port} {arg : Word} {s : State} (h : commandDue p .release [arg] s = true) :
    exec (.release p arg) s = .next (doRelease p arg (commandTaken p s)) :=
  congrArg Host.Outcome.next (atPort_of_due h (doRelease p arg))

theorem exec_clearFault {p : Port} {arg : Word} {s : State} (h : commandDue p .clearFault [arg] s = true) :
    exec (.clearFault p arg) s = .next (doClearFault p arg (commandTaken p s)) :=
  congrArg Host.Outcome.next (atPort_of_due h (doClearFault p arg))

/-- The line results that let a DARK channel wake are all but two (R89). -/
theorem wakeLine_iff (l : LineResult) : (l = .unknown ∨ l = .openLine ∨ l = .signature) ↔ l ≠ .short ∧ l ≠ .foreign := by
  cases l <;> decide

theorem cancelProbe_of_none {s : State} (h : s.probe = none) (c : Chan) : cancelProbe c s = s := by
  simp only [cancelProbe, h]

theorem cancelProbe_of_other {s : State} {p : Probe} (h : s.probe = some p) {c : Chan} (hc : p.chan ≠ c) :
    cancelProbe c s = s := by
  simp only [cancelProbe, h, if_neg hc]

theorem cancelProbe_of_own {s : State} {p : Probe} (h : s.probe = some p) {c : Chan} (hc : p.chan = c) : cancelProbe c s =
    look { s with
      probe := none
      service := withRecords s.frame s.slotIndex c
        [.probeResult p.partner.isSome (if p.partner.isSome then some (partnerOf c) else none) .cancelled none] s.service } := by
  subst hc
  simp only [cancelProbe, h, if_true]
  rfl

/-- Settles O47: the channel number, then the condition of each command, then its transition. -/
theorem lifeCommandsAct : Obligations.LifeCommandsAct := by
  unfold Obligations.LifeCommandsAct
  intro arg s n u answer refused unprobed
  have hcancel (c : Chan) (t : State) : cancelProbe c t = unprobed c t := by
    simp only [unprobed]
    split
    · rename_i p hp
      split
      · exact cancelProbe_of_own hp ‹_›
      · exact cancelProbe_of_other hp ‹_›
    · exact cancelProbe_of_none ‹_› c
  refine ⟨fun h => ?_, fun h => ?_, fun h => ?_, fun h => ?_⟩
  · rw [exec_wake h, doWake]
    refine ⟨fun hn => by rw [channelCommand_of_none rfl hn]; rfl, fun c hc => ?_⟩
    rw [channelCommand_service rfl hc]
    intro x ok
    simp only [wakeLine_iff, doneChan_eq, hcancel]
    exact ⟨fun hok => by rw [if_pos hok]; rfl, fun hok => by rw [if_neg hok]; rfl⟩
  · rw [exec_retire h, doRetire]
    refine ⟨fun hn => by rw [channelCommand_of_none rfl hn]; rfl, fun c hc => ?_⟩
    rw [channelCommand_service rfl hc]
    simp only [doneChan_eq, hcancel]
    exact ⟨fun hl => by rw [if_neg hl]; rfl, fun hl => by rw [if_pos hl]; rfl⟩
  · rw [exec_release h, doRelease]
    refine ⟨fun hn => by rw [channelCommand_of_none rfl hn]; rfl, fun c hc => ?_⟩
    rw [channelCommand_service rfl hc]
    simp only [doneChan_eq]
    exact ⟨fun hl => by rw [if_pos hl]; rfl, fun hl => by rw [if_neg hl]; rfl⟩
  · rw [exec_clearFault h, doClearFault]
    refine ⟨fun hn => by rw [channelCommand_of_none rfl hn]; rfl, fun c hc => ?_⟩
    rw [channelCommand_service rfl hc]
    intro x
    simp only [doneChan_eq, lockStrikes]
    exact ⟨fun hl hlt => by rw [if_neg (not_not.2 hl), if_pos hlt]; rfl,
      fun hl hle => by rw [if_neg (not_not.2 hl), if_neg (Nat.not_lt.2 hle)]; rfl, fun hl => by rw [if_pos hl]; rfl⟩

/-! ### TEST, ABORT_TEST, SEND -/

theorem exec_test {p : Port} {arg : Word} {s : State} (h : commandDue p .test [arg] s = true) :
    exec (.test p arg) s = .next (doTest p arg (commandTaken p s)) := congrArg Host.Outcome.next (atPort_of_due h (doTest p arg))

theorem exec_abortTest {p : Port} {arg : Word} {s : State} (h : commandDue p .abortTest [arg] s = true) :
    exec (.abortTest p arg) s = .next (doAbortTest p arg (commandTaken p s)) :=
  congrArg Host.Outcome.next (atPort_of_due h (doAbortTest p arg))

theorem exec_send {p : Port} {arg : Word} {s : State} (h : commandDue p .send [arg] s = true) :
    exec (.send p arg) s = .next (doSend p arg (commandTaken p s)) := congrArg Host.Outcome.next (atPort_of_due h (doSend p arg))

theorem beginTestInFlight_iff (ch : Channel) :
    beginTestInFlight ch = true ↔ ∃ e, ch.exchange = some e ∧ e.cmd = .beginTest := by
  unfold beginTestInFlight
  split <;> simp [*]

/-- A requested test ends (R135): its context and its BEGIN_TEST go, and its record has no counts (R144). -/
theorem endTest_of_requested {c : Chan} {s : State} {k : TestContext} (hk : (chanAt s c).test = some k)
    (hph : k.phase = .requested) (hm : (chanAt s c).mailbox.map Mailbox.cmd = some .beginTest) (o : TestOutcome) :
    endTest c o s =
      { setChan c { chanAt s c with test := none, mailbox := none } s with
        service := withRecords s.frame s.slotIndex c [.testResult o .requested k.duration 0 none none none k.aborted 0]
          s.service } := by
  have hmail : ((chanAt s c).mailbox.filter fun m => m.cmd ≠ .beginTest) = none := by
    cases h : (chanAt s c).mailbox with
    | none => rfl
    | some m =>
      rw [h] at hm
      simp [Option.some.inj hm]
  simp only [endTest, hk, modChan, hmail, reportChan_eq, testEnding, hph, if_true]
  rfl

/-- TEST's checks in their order, with the status record's in-use bit read off the option (R134). -/
theorem doTest_of_chan {arg : Word} {c : Chan} (hc : (arg.extractLsb' 24 8).toNat = c.val) (s : State) :
    doTest .service arg s =
      if bits 23 16 arg = 0 ∨ 15 < bits 23 16 arg then refuse .service .test .badArgument s
      else if (chanAt s c).life ≠ .fed then refuse .service .test .wrongState s
      else if (chanAt s c).mailbox.isSome then refuse .service .test .mailboxBusy s
      else if (chanAt s c).status.any StatusRecord.inUse then refuse .service .test .wrongState s
      else doneChan .service .test c (setChan c (requestTest (bits 23 16 arg) (chanAt s c)) s) := by
  rw [doTest, channelCommand_service rfl hc]
  cases hs : (chanAt s c).status with
  | none => simp only [hs, modChan, Option.any_none]
  | some r => simp only [hs, modChan, Option.any_some]

/-- The codes of the downlink commands SEND may carry, with their commands (R118). -/
theorem sendCmdOf_of_listed {n : Nat} (h : (n = 3 ∨ n = 6) ∨ 8 ≤ n ∧ n ≤ 11) : ∃ d, sendCmdOf n = some d ∧
    ((d = .query ∨ d = .doze) ↔ n = 3 ∨ n = 6) := by
  obtain rfl | rfl | rfl | rfl | rfl | rfl : n = 3 ∨ n = 6 ∨ n = 8 ∨ n = 9 ∨ n = 10 ∨ n = 11 := by omega
  all_goals exact ⟨_, rfl, by decide⟩

theorem listed_of_sendCmdOf {n : Nat} {d : DownCmd} (h : sendCmdOf n = some d) : (n = 3 ∨ n = 6) ∨ 8 ≤ n ∧ n ≤ 11 := by
  unfold sendCmdOf at h
  split at h
  case h_7 => exact absurd h (by simp)
  all_goals omega

/-- What SEND's word must say: QUERY or DOZE with no argument, or AUX 0 to 3 with one of at most 15 (R118). -/
def SendKnown (code a : Nat) : Prop := (code = 3 ∨ code = 6) ∧ a = 0 ∨ (8 ≤ code ∧ code ≤ 11) ∧ a ≤ 15

/-- SEND's table and argument check take exactly the words of R118. -/
theorem sendKnown_iff (code a : Nat) : SendKnown code a ↔
    ∃ d, sendCmdOf code = some d ∧ ¬ (15 < a ∨ ((d = .query ∨ d = .doze) ∧ a ≠ 0)) := by
  unfold SendKnown
  constructor
  · intro h
    obtain ⟨d, hd, hiff⟩ := sendCmdOf_of_listed (n := code) (by omega)
    refine ⟨d, hd, ?_⟩
    rw [hiff]
    omega
  · rintro ⟨d, hd, hok⟩
    have hlisted := listed_of_sendCmdOf hd
    obtain ⟨d', hd', hiff⟩ := sendCmdOf_of_listed hlisted
    obtain rfl : d = d' := Option.some.inj (hd.symm.trans hd')
    rw [hiff] at hok
    omega

/-- SEND, once its word is of R118's table: the state and the mailbox decide. -/
theorem doSend_of_known {arg : Word} {c : Chan} (hc : (arg.extractLsb' 24 8).toNat = c.val) {d : DownCmd}
    (hd : sendCmdOf (bits 23 16 arg) = some d) (hk : SendKnown (bits 23 16 arg) (bits 15 8 arg)) (s : State) :
    doSend .service arg s =
      if (chanAt s c).life ≠ .fed then refuse .service .send .wrongState s
      else if (chanAt s c).mailbox.isSome then refuse .service .send .mailboxBusy s
      else doneChan .service .send c
        (setChan c { chanAt s c with mailbox := some { cmd := d, arg := bits 15 8 arg } } s) := by
  obtain ⟨d', hd', hok⟩ := (sendKnown_iff ..).1 hk
  obtain rfl : d = d' := Option.some.inj (hd.symm.trans hd')
  rw [doSend, channelCommand_service rfl hc]
  simp only [hd, if_neg hok, modChan]

theorem doSend_of_unknown {arg : Word} {c : Chan} (hc : (arg.extractLsb' 24 8).toNat = c.val)
    (hk : ¬ SendKnown (bits 23 16 arg) (bits 15 8 arg)) (s : State) :
    doSend .service arg s = refuse .service .send .badArgument s := by
  rw [doSend, channelCommand_service rfl hc]
  cases hd : sendCmdOf (bits 23 16 arg) with
  | none => rfl
  | some d =>
    have hbad := not_not.1 fun hok => hk ((sendKnown_iff ..).2 ⟨d, hd, hok⟩)
    simp only [if_pos hbad]

/-- Settles O48: the channel number, then each command's checks in their order, then what an accepted one leaves. -/
theorem testAndSendAct : Obligations.TestAndSendAct := by
  unfold Obligations.TestAndSendAct
  refine ⟨fun arg s hn => ⟨fun h => ?_, fun h => ?_, fun h => ?_⟩, fun arg s c hc => ?_⟩
  · rw [exec_test h, doTest, channelCommand_of_none rfl hn]
    rfl
  · rw [exec_abortTest h, doAbortTest, channelCommand_of_none rfl hn]
    rfl
  · rw [exec_send h, doSend, channelCommand_of_none rfl hn]
    rfl
  intro u x answer refused
  refine ⟨fun h => ?_, fun h => ?_, fun h => ?_⟩
  · rw [exec_test h, doTest_of_chan hc]
    intro d inUse
    have hinUse : x.status.any StatusRecord.inUse = true ↔ inUse := Option.any_eq_true _ _
    have hd : 1 ≤ d → d ≤ 15 → ¬ (bits 23 16 arg = 0 ∨ 15 < bits 23 16 arg) := fun h1 h2 => by
      rintro (h0 | h15)
      · exact absurd h0 (Nat.pos_iff_ne_zero.1 h1)
      · exact absurd h15 (Nat.not_lt.2 h2)
    simp only [doneChan_eq, ite_not]
    refine ⟨fun hbad => ?_, fun h1 h2 hl => ?_, fun h1 h2 hl hm => ?_, fun h1 h2 hl hm hu => ?_, fun h1 h2 hl hm hu => ?_⟩
    · rw [if_pos (show bits 23 16 arg = 0 ∨ 15 < bits 23 16 arg from hbad)]
      rfl
    · rw [if_neg (hd h1 h2), if_neg hl]
      rfl
    · rw [if_neg (hd h1 h2), if_pos hl, if_pos (Option.isSome_iff_ne_none.2 hm)]
      rfl
    · rw [if_neg (hd h1 h2), if_pos hl, if_neg (Option.not_isSome_iff_eq_none.2 hm), if_pos (hinUse.2 hu)]
      rfl
    · rw [if_neg (hd h1 h2), if_pos hl, if_neg (Option.not_isSome_iff_eq_none.2 hm), if_neg (mt hinUse.1 hu)]
      rfl
  · rw [exec_abortTest h, doAbortTest, channelCommand_service rfl hc]
    intro onLine
    have honLine : beginTestInFlight x = true ↔ onLine := beginTestInFlight_iff x
    refine ⟨fun hk => ?_, fun k hk => ⟨fun hph hon => ?_, fun hph hon hm => ?_, fun hph => ?_, fun hph => ?_⟩⟩
    · simp only [show (chanAt (commandTaken .service s) c).test = none from hk]
      rfl
    all_goals simp only [show (chanAt (commandTaken .service s) c).test = some k from hk, hph]
    · rw [if_pos (honLine.2 hon)]
      rfl
    · rw [if_neg (mt honLine.1 hon), endTest_of_requested hk hph hm, doneChan_eq]
      rfl
    · rw [doneChan_eq, modChan, resumeChannel, show (chanAt (commandTaken .service s) c).test = some k from hk]
      rfl
    · rfl
  · rw [exec_send h]
    intro code a cmd known
    have hcmd (hk : known) : sendCmdOf (bits 23 16 arg) = some cmd := by
      have hcode : bits 23 16 arg = code := rfl
      obtain h | h | h | h | h | h : code = 3 ∨ code = 6 ∨ code = 8 ∨ code = 9 ∨ code = 10 ∨ code = 11 := by omega
      all_goals
        simp only [cmd, hcode, h]
        rfl
    refine ⟨fun hk => ?_, fun hk hl => ?_, fun hk hl hm => ?_, fun hk hl hm => ?_⟩
    · rw [doSend_of_unknown hc hk]
      rfl
    all_goals rw [doSend_of_known hc (hcmd hk) hk]
    · rw [if_pos hl]
      rfl
    · rw [if_neg (not_not.2 hl), if_pos (Option.isSome_iff_ne_none.2 hm)]
      rfl
    · rw [if_neg (not_not.2 hl), if_neg (Option.not_isSome_iff_eq_none.2 hm), doneChan_eq]
      rfl

end Sys2Proof.Machine
end

/-! ## The post-time checks and the fields of an edit (R88, R147, R180) -/

section
namespace Sys2Proof.Machine

/-! ### Fields of words and the numbers they name -/

theorem bits_eq (hi lo : Nat) (w : Word) : bits hi lo w = w.toNat / 2 ^ lo % 2 ^ (hi + 1 - lo) := by
  rw [bits, BitVec.extractLsb'_toNat, Nat.shiftRight_eq_div_pow]

/-- A flag is its bit's field of width 1. -/
theorem flag_eq_bits (i : Nat) (w : Word) : flag i w = decide (bits i i w = 1) := by
  rw [bits_eq, Nat.add_sub_cancel_left, Nat.pow_one, flag, BitVec.getLsbD, Nat.testBit_eq_decide_div_mod_eq]

theorem chanOf_eq_some_iff {n : Nat} {c : Chan} : chanOf n = some c ↔ c.val = n := by
  constructor
  · intro h
    unfold chanOf at h
    split at h <;> cases h
    rfl
  · rintro rfl
    exact chanOf_val c

theorem rowOf_eq_some_iff {n : Nat} {r : RowIndex} : rowOf n = some r ↔ r.val = n := by
  constructor
  · intro h
    unfold rowOf at h
    split at h <;> cases h
    rfl
  · rintro rfl
    exact dif_pos r.isLt

theorem fin4Of_eq_some_iff {n : Nat} {k : Fin 4} : fin4Of n = some k ↔ k.val = n := by
  constructor
  · intro h
    unfold fin4Of at h
    split at h <;> cases h
    rfl
  · rintro rfl
    exact dif_pos k.isLt

theorem classOf_eq_some_iff {n : Nat} {k : ChanClass} : classOf n = some k ↔ n = k.code := by
  constructor
  · intro h
    unfold classOf at h
    split at h <;> cases h <;> rfl
  · rintro rfl
    cases k <;> rfl

theorem chansOf_eq_some_iff {ns : List Nat} {cs : List Chan} : chansOf ns = some cs ↔ cs.map Fin.val = ns := by
  constructor
  · intro h
    induction ns generalizing cs with
    | nil => cases h; rfl
    | cons n rest ih =>
      unfold chansOf at h
      split at h
      · rename_i c cs' hc hrest
        cases h
        rw [List.map_cons, ih hrest, chanOf_eq_some_iff.1 hc]
      · cases h
  · rintro rfl
    induction cs with
    | nil => rfl
    | cons c rest ih => simp only [List.map_cons, chansOf, chanOf_val, ih]

/-! ### The configuration word (R88) -/

/-- The fields of a configuration word are those of a configuration. -/
structure ConfigFields (w : Word) (cfg : ChanConfig) : Prop where
  defaultForecast : bits 13 0 w = cfg.defaultForecast
  wakeLimit : bits 17 15 w = cfg.wakeLimit
  rampCode : bits 20 18 w = cfg.rampCode
  adaptation : flag 21 w = cfg.adaptation
  autoWake : flag 22 w = cfg.autoWake
  openLoadCode : bits 23 23 w = cfg.openLoadCode.val
  ocDeglitch : bits 25 24 w = cfg.ocDeglitch.val
  tripDeglitch : bits 27 26 w = cfg.tripDeglitch.val
  tripLevel : bits 29 28 w = cfg.tripLevel.val
  cls : bits 31 30 w = cfg.cls.code

theorem finOfNat_eq {n m : Nat} [NeZero n] {k : Fin n} (h : m = k.val) : Fin.ofNat n m = k := by
  subst h
  exact Fin.ext (Nat.mod_eq_of_lt k.isLt)

theorem val_finOfNat_bits (hi lo : Nat) (w : Word) : bits hi lo w = (Fin.ofNat (2 ^ (hi + 1 - lo)) (bits hi lo w)).val :=
  (Nat.mod_eq_of_lt (bits_lt hi lo w)).symm

theorem configFields_of_word {w : Word} {cfg : ChanConfig} (h : configOfWord w = some cfg) : ConfigFields w cfg := by
  unfold configOfWord at h
  split at h
  · cases h
  · rename_i k hk
    split at h <;> cases h
    exact {
      defaultForecast := rfl, wakeLimit := rfl, rampCode := rfl, adaptation := rfl, autoWake := rfl
      openLoadCode := val_finOfNat_bits 23 23 w, ocDeglitch := val_finOfNat_bits 25 24 w
      tripDeglitch := val_finOfNat_bits 27 26 w, tripLevel := val_finOfNat_bits 29 28 w
      cls := classOf_eq_some_iff.1 hk }

/-- A configuration word is taken exactly for a configuration in range whose fields it shows. -/
theorem configOfWord_eq_some_iff {w : Word} {cfg : ChanConfig} :
    configOfWord w = some cfg ↔ ConfigInRange cfg ∧ ConfigFields w cfg := by
  refine ⟨fun h => ⟨configInRange_of_word h, configFields_of_word h⟩, fun ⟨hrange, hf⟩ => ?_⟩
  obtain ⟨hlimit, -, hforecast, -⟩ := hrange
  simp only [configOfWord, classOf_eq_some_iff.2 hf.cls, finOfNat_eq hf.tripLevel, finOfNat_eq hf.tripDeglitch,
    finOfNat_eq hf.ocDeglitch, finOfNat_eq hf.openLoadCode, hf.autoWake, hf.wakeLimit, hf.defaultForecast, hf.rampCode,
    hf.adaptation, if_pos (And.intro hlimit hforecast)]

theorem placeFlag_eq (lo : Nat) (b : Bool) : placeFlag lo b = b.toNat * 2 ^ lo := by cases b <;> simp [placeFlag]

theorem flag_of_bits {i : Nat} {w : Word} {b : Bool} (h : bits i i w = b.toNat) : flag i w = b := by
  rw [flag_eq_bits, h]
  cases b <;> rfl

theorem ChanClass.code_lt (k : ChanClass) : k.code < 4 := by cases k <;> decide

theorem place_of_lt {width v : Nat} (h : v < 2 ^ width) (lo : Nat) : place width lo v = v * 2 ^ lo := by
  rw [place, Nat.mod_eq_of_lt h]

theorem toNat_wordOf {fields : List Nat} (h : fields.sum < 2 ^ 32) : (wordOf fields).toNat = fields.sum := by
  rw [wordOf, BitVec.toNat_ofNat, Nat.mod_eq_of_lt h]

/-- The sum of ten fields, for any numbers: with the powers of two in their places the kernel would compare large literals. -/
theorem sum_of_ten (a b c d e f g h i j : Nat) :
    [a, b, c, d, e, f, g, h, i, j].sum = a + b + c + d + e + f + g + h + i + j := by
  simp only [List.sum_cons, List.sum_nil, add_assoc, add_zero]

/-- In a configuration in range no field of its word is cut. -/
theorem configWord_eq {cfg : ChanConfig} (h : ConfigInRange cfg) : configWord cfg =
    wordOf [cfg.cls.code * 2 ^ 30, cfg.tripLevel.val * 2 ^ 28, cfg.tripDeglitch.val * 2 ^ 26, cfg.ocDeglitch.val * 2 ^ 24,
      cfg.openLoadCode.val * 2 ^ 23, cfg.autoWake.toNat * 2 ^ 22, cfg.adaptation.toNat * 2 ^ 21, cfg.rampCode * 2 ^ 18,
      cfg.wakeLimit * 2 ^ 15, cfg.defaultForecast] := by
  obtain ⟨-, hlimit, hforecast, hramp⟩ := h
  have hcls := cfg.cls.code_lt
  rw [configWord, place_of_lt (by omega), place_of_lt (by omega), place_of_lt (by omega), place_of_lt (by omega),
    place_of_lt (by omega), placeFlag_eq, placeFlag_eq, place_of_lt (by omega), place_of_lt (by omega), place_of_lt (by omega),
    pow_zero, mul_one]

/-- The configuration word as a number: its fields side by side. -/
theorem toNat_configWord {cfg : ChanConfig} (h : ConfigInRange cfg) : (configWord cfg).toNat =
    cfg.cls.code * 2 ^ 30 + cfg.tripLevel.val * 2 ^ 28 + cfg.tripDeglitch.val * 2 ^ 26 + cfg.ocDeglitch.val * 2 ^ 24 +
      cfg.openLoadCode.val * 2 ^ 23 + cfg.autoWake.toNat * 2 ^ 22 + cfg.adaptation.toNat * 2 ^ 21 + cfg.rampCode * 2 ^ 18 +
      cfg.wakeLimit * 2 ^ 15 + cfg.defaultForecast := by
  rw [configWord_eq h, toNat_wordOf, sum_of_ten]
  rw [sum_of_ten]
  obtain ⟨-, hlimit, hforecast, hramp⟩ := h
  have hcls := cfg.cls.code_lt
  have hauto := cfg.autoWake.toNat_le
  have hadapt := cfg.adaptation.toNat_le
  omega

theorem configFields_configWord {cfg : ChanConfig} (h : ConfigInRange cfg) : ConfigFields (configWord cfg) cfg := by
  have hword := toNat_configWord h
  obtain ⟨-, hlimit, hforecast, hramp⟩ := h
  have hcls := cfg.cls.code_lt
  have hauto := cfg.autoWake.toNat_le
  have hadapt := cfg.adaptation.toNat_le
  constructor
  case adaptation | autoWake =>
    refine flag_of_bits ?_
    rw [bits_eq, hword]
    omega
  all_goals
    rw [bits_eq, hword]
    omega

/-! ### What each kind of edit takes (R147) -/

/-- An edit of a row number and a channel number is taken where both name one. -/
theorem rowAndChan_eq_some_iff (mk : RowIndex → Chan → EditContent) {n m : Nat} {content : EditContent} :
    ((rowOf n).bind fun r => (chanOf m).map (mk r)) = some content ↔
      ∃ r c, content = mk r c ∧ r.val = n ∧ c.val = m := by
  simp only [Option.bind_eq_some_iff, Option.map_eq_some_iff, rowOf_eq_some_iff, chanOf_eq_some_iff]
  constructor
  · rintro ⟨r, hr, c, hc, rfl⟩
    exact ⟨r, c, rfl, hr, hc⟩
  · rintro ⟨r, c, rfl, hr, hc⟩
    exact ⟨r, hr, c, hc, rfl⟩

theorem editOfWords_rowAdd (w1 w2 : Word) : editOfWords .rowAdd w1 w2 =
    (rowOf (bits 23 16 w1)).bind fun r => (chanOf (bits 15 8 w1)).map (.rowAdd r) := by
  rw [editOfWords]
  cases rowOf (bits 23 16 w1) <;> cases chanOf (bits 15 8 w1) <;> rfl

theorem editOfWords_rowDrop (w1 w2 : Word) : editOfWords .rowDrop w1 w2 =
    (rowOf (bits 23 16 w1)).bind fun r => (chanOf (bits 15 8 w1)).map (.rowDrop r) := by
  rw [editOfWords]
  cases rowOf (bits 23 16 w1) <;> cases chanOf (bits 15 8 w1) <;> rfl

theorem editOfWords_rowSet_iff {w1 w2 : Word} {content : EditContent} : editOfWords .rowSet w1 w2 = some content ↔
    ∃ (r : RowIndex) (ms : List Chan), content = .rowSet r (flag 15 w1) (flag 14 w1) ms ∧ r.val = bits 23 16 w1 ∧ ms.Nodup ∧
      bits 10 8 w1 ≤ 4 ∧
      ms.map Fin.val = [bits 31 24 w2, bits 23 16 w2, bits 15 8 w2, bits 7 0 w2].take (bits 10 8 w1) := by
  constructor
  · intro h
    simp only [editOfWords] at h
    split at h
    · rename_i r ms hr hms
      split at h
      · rename_i hok
        cases h
        exact ⟨r, ms, rfl, rowOf_eq_some_iff.1 hr, hok.2, hok.1, chansOf_eq_some_iff.1 hms⟩
      · cases h
    · cases h
  · rintro ⟨r, ms, rfl, hr, hnodup, hn, hms⟩
    simp only [editOfWords, rowOf_eq_some_iff.2 hr, chansOf_eq_some_iff.2 hms, if_pos (And.intro hn hnodup)]

theorem editOfWords_globals_iff {w1 w2 : Word} {content : EditContent} : editOfWords .globals w1 w2 = some content ↔
    ∃ g : Globals, content = .globals g ∧ g.chopCode.val = bits 23 16 w1 ∧ g.target = bits 31 16 w2 ∧ g.gain = bits 7 0 w2 ∧
      100 ≤ g.target ∧ g.target ≤ 800 ∧ g.target % 50 = 0 ∧ 1 ≤ g.gain ∧ g.gain ≤ 3 := by
  constructor
  · intro h
    simp only [editOfWords] at h
    split at h
    · rename_i code hcode
      split at h
      · rename_i hok
        cases h
        exact ⟨_, rfl, fin4Of_eq_some_iff.1 hcode, rfl, rfl, hok⟩
      · cases h
    · cases h
  · rintro ⟨⟨code, target, gain⟩, rfl, hcode, rfl, rfl, hok⟩
    simp only [editOfWords, fin4Of_eq_some_iff.2 hcode, if_pos hok]

theorem editOfWords_channelConfig_iff {w1 w2 : Word} {content : EditContent} :
    editOfWords .channelConfig w1 w2 = some content ↔ ∃ (c : Chan) (cfg : ChanConfig),
      content = .channelConfig c cfg ∧ c.val = bits 23 16 w1 ∧ ConfigInRange cfg ∧ ConfigFields w2 cfg := by
  constructor
  · intro h
    simp only [editOfWords] at h
    split at h
    · rename_i c cfg hc hcfg
      cases h
      exact ⟨c, cfg, rfl, chanOf_eq_some_iff.1 hc, configOfWord_eq_some_iff.1 hcfg⟩
    · cases h
  · rintro ⟨c, cfg, rfl, hc, hcfg⟩
    simp only [editOfWords, chanOf_eq_some_iff.2 hc, configOfWord_eq_some_iff.2 hcfg]

/-- A check that keeps or refuses one value takes it alone, and only where it holds. -/
theorem ite_some_eq_iff {α : Type} {p : Prop} [Decidable p] {a b : α} : (if p then some a else none) = some b ↔ b = a ∧ p := by
  rw [Option.ite_none_right_eq_some, Option.some.injEq, eq_comm, and_comm]

/-- Settles O44: by the kind of edit; the configuration word by its fields. -/
theorem postChecksRanges : Obligations.PostChecksRanges := by
  unfold Obligations.PostChecksRanges
  intro w1 w2 f
  have hf : f = bits := by
    funext hi lo w
    exact (bits_eq hi lo w).symm
  clear_value f
  subst hf
  intro row chan
  refine ⟨fun _ => ?_, fun _ => ?_, fun _ => editOfWords_rowSet_iff, fun _ => ite_some_eq_iff,
    fun _ => editOfWords_globals_iff, fun content => ?_, fun _ => ?_, fun _ => ?_,
    fun cfg h => configOfWord_eq_some_iff.2 ⟨h, configFields_configWord h⟩⟩
  · rw [editOfWords_rowAdd, rowAndChan_eq_some_iff]
  · rw [editOfWords_rowDrop, rowAndChan_eq_some_iff]
  · rw [editOfWords, Option.ite_none_left_eq_some, Bool.not_eq_true, Option.some.injEq, and_comm, eq_comm (b := content)]
    rfl
  · simp only [editOfWords, bits_whole]
    exact ite_some_eq_iff
  · rw [editOfWords_channelConfig_iff]
    have hlow : w2.toNat % 2 ^ 14 = bits 13 0 w2 := by simp [bits_eq]
    rw [hlow]
    refine exists_congr fun c => exists_congr fun cfg => and_congr_right fun _ => and_congr_right fun _ =>
      and_congr_right fun _ => ⟨fun h => ?_, fun h => ?_⟩
    · exact ⟨h.defaultForecast, h.wakeLimit, h.rampCode, h.adaptation, h.autoWake, h.openLoadCode, h.ocDeglitch,
        h.tripDeglitch, h.tripLevel, h.cls⟩
    · obtain ⟨hforecast, hlimit, hramp, hadapt, hauto, hopen, hoc, htrip, hlevel, hcls⟩ := h
      exact ⟨hforecast, hlimit, hramp, hadapt, hauto, hopen, hoc, htrip, hlevel, hcls⟩

end Sys2Proof.Machine
end

/-! ## The slot and the lines in it (R103 to R105, R110, R114): what every step but the timebase's and three of the line keeps

`SlotKept s t`: from `s` to `t` the clock and the slot stand, and no line got a new placement or exchange, or another one: each
stays as it was or is gone. It is reflexive and transitive, so each operation is proved once. -/

section
namespace Sys2Proof.Machine

/-- The clock and where it stands in the slot. -/
def slotClock (s : State) : Nat × Nat × Nat × SlotPhase := (s.ms, s.layout.len, s.slotTime, s.phase)

/-- A channel's placement and its exchange each stay as they were, or are gone. -/
structure LineKept (x y : Channel) : Prop where
  placement : y.placement = x.placement ∨ y.placement = none
  exchange : y.exchange = x.exchange ∨ y.exchange = none

theorem LineKept.of_same {x y : Channel} (hp : y.placement = x.placement) (he : y.exchange = x.exchange) : LineKept x y :=
  ⟨.inl hp, .inl he⟩

theorem LineKept.of_gone {x y : Channel} (hp : y.placement = none) (he : y.exchange = none) : LineKept x y :=
  ⟨.inr hp, .inr he⟩

theorem LineKept.refl (x : Channel) : LineKept x x := .of_same rfl rfl

theorem LineKept.trans {x y z : Channel} (h : LineKept x y) (k : LineKept y z) : LineKept x z where
  placement := k.placement.elim (fun hk => hk ▸ h.placement) .inr
  exchange := k.exchange.elim (fun hk => hk ▸ h.exchange) .inr

/-- A departure ends the exchange and withdraws the placement (R94, R114). -/
theorem lineKept_departed (g : Globals) (now : Nat) (ch : Channel) : LineKept ch (departed g now ch) := by
  unfold departed
  split
  · exact .of_gone rfl rfl
  · exact .refl ch

/-- The clock and the slot stand, and each line's placement and exchange stay or are gone. -/
structure SlotKept (s t : State) : Prop where
  clock : slotClock t = slotClock s
  lines : ∀ c, LineKept (chanAt s c) (chanAt t c)

theorem SlotKept.refl (s : State) : SlotKept s s := ⟨rfl, fun _ => .refl _⟩

theorem SlotKept.trans {s t u : State} (h : SlotKept s t) (k : SlotKept t u) : SlotKept s u :=
  ⟨k.clock.trans h.clock, fun c => (h.lines c).trans (k.lines c)⟩

theorem SlotKept.ite {s t u : State} {q : Prop} [Decidable q] (ht : SlotKept s t) (hu : SlotKept s u) :
    SlotKept s (if q then t else u) := by split <;> assumption

/-- A step that writes no channel and leaves the clock. -/
theorem slotKept_of_channels {s t : State} (h : t.channels = s.channels) (hclock : slotClock t = slotClock s) : SlotKept s t :=
  ⟨hclock, fun c => chanAt_congr h c ▸ .refl _⟩

/-- A step of one channel that leaves the clock. -/
theorem slotKept_of_one {s t : State} (c : Chan) (hclock : slotClock t = slotClock s)
    (hd : ∀ d, d ≠ c → chanAt t d = chanAt s d) (hc : LineKept (chanAt s c) (chanAt t c)) : SlotKept s t := by
  refine ⟨hclock, fun d => ?_⟩
  by_cases hdc : d = c
  · exact hdc ▸ hc
  · rw [hd d hdc]
    exact .refl _

theorem slotKept_modChan {c : Chan} {f : Channel → Channel} {s : State} (h : LineKept (chanAt s c) (f (chanAt s c))) :
    SlotKept s (modChan c f s) :=
  slotKept_of_one c rfl (fun _ hd => chanAt_modChan_other hd f s) (by rwa [chanAt_modChan_self])

/-- A change of a channel that leaves its placement and its exchange. -/
theorem slotKept_modChan_same {c : Chan} {f : Channel → Channel} {s : State}
    (hp : (f (chanAt s c)).placement = (chanAt s c).placement) (he : (f (chanAt s c)).exchange = (chanAt s c).exchange) :
    SlotKept s (modChan c f s) := slotKept_modChan (.of_same hp he)

theorem slotKept_modPort (p : Port) (f : PortState → PortState) (s : State) : SlotKept s (modPort p f s) :=
  slotKept_of_channels (modPort_channels ..) (by simp [slotClock])

theorem slotKept_report (p : Port) (c : Option Chan) (b : ReportBody) (s : State) : SlotKept s (report p c b s) :=
  slotKept_modPort ..

theorem slotKept_reportChan (c : Chan) (b : ReportBody) (s : State) : SlotKept s (reportChan c b s) := slotKept_report ..

theorem slotKept_look (s : State) : SlotKept s (look s) := by
  obtain ⟨q, pr, w, sv, h⟩ := look_frame s
  exact slotKept_of_channels (look_channels s) (by rw [h]; rfl)

theorem slotKept_cancelProbe (c : Chan) (s : State) : SlotKept s (cancelProbe c s) := by
  obtain ⟨q, pr, w, sv, h⟩ := cancelProbe_frame c s
  exact slotKept_of_channels (cancelProbe_channels c s) (by rw [h]; rfl)

/-! ### Entries to the unpowered states -/

/-- An entry to an unpowered state departs its channel (R94) and leaves the others. -/
theorem slotKept_of_departed {c : Chan} {s t : State} {y : Channel} (hclock : slotClock t = slotClock s)
    (ht : ∀ d, chanAt t d = if d = c then y else chanAt s d)
    (hp : y.placement = (departed s.globals s.ms (chanAt s c)).placement)
    (he : y.exchange = (departed s.globals s.ms (chanAt s c)).exchange) : SlotKept s t := by
  refine slotKept_of_one c hclock (fun d hd => by rw [ht, if_neg hd]) ?_
  rw [ht, if_pos rfl]
  exact (lineKept_departed ..).trans (.of_same hp he)

theorem slotKept_enterDark (c : Chan) (cause : StateCause) (own : Option ReportBody) (o : TestOutcome) (s : State) :
    SlotKept s (enterDark c cause own o s) := by
  obtain ⟨x, q, pr, w, sv, h⟩ := enterDark_frame c cause own o s
  exact slotKept_of_departed (by rw [h]; rfl) (chanAt_enterDark c cause own o s) rfl rfl

theorem slotKept_enterFaulted (c : Chan) (cause : StateCause) (partner : Option Chan) (s : State) :
    SlotKept s (enterFaulted c cause partner s) := by
  obtain ⟨x, sv, h⟩ := enterFaulted_frame c cause partner s
  exact slotKept_of_departed (by rw [h]; rfl) (chanAt_enterFaulted c cause partner s) rfl rfl

theorem slotKept_enterRetired (c : Chan) (s : State) : SlotKept s (enterRetired c s) := by
  obtain ⟨x, sv, h⟩ := enterRetired_frame c s
  exact slotKept_of_departed (by rw [h]; rfl) (chanAt_enterRetired c s) rfl rfl

/-! ### Outcomes of exchanges -/

theorem slotKept_countAttempt (c : Chan) (s : State) : SlotKept s (countAttempt c s) := by
  have hcount : SlotKept s (modChan c (fun ch => { ch with attempts := ch.attempts + 1 }) s) := slotKept_modChan_same rfl rfl
  exact .ite (hcount.trans (slotKept_enterDark ..)) hcount

theorem slotKept_goSilent (c : Chan) (s : State) : SlotKept s (goSilent c s) := by
  unfold goSilent
  exact slotKept_enterDark ..

theorem slotKept_goOpenLoad (c : Chan) (s : State) : SlotKept s (goOpenLoad c s) := by
  unfold goOpenLoad
  exact slotKept_enterDark ..

theorem slotKept_countMiss (c : Chan) (s : State) : SlotKept s (countMiss c s) := by
  have hcount : SlotKept s (modChan c (fun ch => { ch with misses := ch.misses + 1 }) s) := slotKept_modChan_same rfl rfl
  exact .ite (hcount.trans (slotKept_goSilent ..)) hcount

theorem slotKept_missAction (c : Chan) (s : State) : SlotKept s (missAction c s) := by
  unfold missAction
  split
  · exact slotKept_countAttempt c s
  · exact slotKept_countMiss c s
  · exact slotKept_countMiss c s
  all_goals exact .refl s

theorem slotKept_feedChannel (c : Chan) (s : State) : SlotKept s (modChan c feedChannel s) := slotKept_modChan_same rfl rfl

theorem slotKept_helloAnswer (c : Chan) (a : Answer) (s : State) : SlotKept s (helloAnswer c a s) :=
  (slotKept_feedChannel c s).trans (slotKept_reportChan ..)

theorem slotKept_withoutTest (c : Chan) (s : State) : SlotKept s (modChan c (fun ch => { ch with test := none }) s) :=
  slotKept_modChan_same rfl rfl

theorem slotKept_resultAnswer (c : Chan) (a : Answer) (s : State) : SlotKept s (resultAnswer c a s) := by
  unfold resultAnswer
  split
  · exact ((slotKept_withoutTest c s).trans (slotKept_reportChan ..)).trans (slotKept_feedChannel ..)
  · exact slotKept_feedChannel c s

theorem slotKept_withMailbox (c : Chan) (m : Option Mailbox) (s : State) :
    SlotKept s (modChan c (fun ch => { ch with mailbox := m }) s) := slotKept_modChan_same rfl rfl

theorem slotKept_settleMailbox (c : Chan) (o : MailOutcome) (m : Mailbox) (n : Nat) (f : Option StatusFields) (s : State) :
    SlotKept s (settleMailbox c o m n f s) := (slotKept_withMailbox c none s).trans (slotKept_reportChan ..)

theorem slotKept_refuseTest (c : Chan) (a : Answer) (s : State) : SlotKept s (refuseTest c a s) := by
  unfold refuseTest
  split
  · exact SlotKept.trans (slotKept_modChan_same rfl rfl) (slotKept_reportChan ..)
  · exact slotKept_withMailbox c none s

theorem slotKept_depart (c : Chan) (s : State) : SlotKept s (depart c s) := by
  rw [depart_eq]
  exact slotKept_modChan (lineKept_departed ..)

theorem slotKept_fedAnswer (c : Chan) (e : Exchange) (a : Answer) (s : State) : SlotKept s (fedAnswer c e a s) := by
  have hmisses : SlotKept s (modChan c (fun ch => { ch with misses := 0 }) s) := slotKept_modChan_same rfl rfl
  unfold fedAnswer
  refine hmisses.trans ?_
  generalize modChan c (fun ch => { ch with misses := 0 }) s = u
  cases e.cmd with
  | keep | wake | resultQuery => exact .refl u
  | query | aux n => exact slotKept_settleMailbox ..
  | doze => exact .ite ((slotKept_withMailbox c none u).trans (slotKept_enterDark ..)) (slotKept_settleMailbox ..)
  | beginTest =>
    exact .ite ((slotKept_depart c u).trans (slotKept_modChan_same rfl rfl)) (slotKept_refuseTest c a u)

theorem slotKept_validAction (c : Chan) (e : Exchange) (a : Answer) (s : State) : SlotKept s (validAction c e a s) := by
  unfold validAction
  split
  · exact slotKept_helloAnswer c a s
  · exact slotKept_fedAnswer c e a s
  · exact slotKept_resultAnswer c a s
  all_goals exact .refl s

theorem slotKept_refreshStatus (c : Chan) (a : Answer) (s : State) : SlotKept s (refreshStatus c a s) :=
  slotKept_modChan_same rfl rfl

theorem slotKept_reportChange (c : Chan) (a : Answer) (frame : Nat) (old : Option StatusRecord) (s : State) :
    SlotKept s (reportChange c a frame old s) := .ite (slotKept_reportChan ..) (.refl s)

theorem slotKept_exchangeOutcome (c : Chan) (e : Exchange) (o : ExchangeOutcome) (answer : Option Answer) (s : State) :
    SlotKept s (exchangeOutcome c e o answer s) := by
  unfold exchangeOutcome
  split
  · rename_i a
    have hanswered : SlotKept s (modChan c (fun ch => { ch with seq := !ch.seq }) (refreshStatus c a s)) :=
      (slotKept_refreshStatus c a s).trans (slotKept_modChan_same rfl rfl)
    exact (hanswered.trans (slotKept_validAction c e a _)).trans (slotKept_reportChange ..)
  · exact ((slotKept_refreshStatus ..).trans (slotKept_missAction ..)).trans (slotKept_reportChange ..)
  · exact slotKept_missAction c s

/-! ### The ends of an exchange -/

theorem slotKept_takeExchange (c : Chan) (inside : Bool) (s : State) : SlotKept s (modChan c (takeExchange inside) s) :=
  slotKept_modChan ⟨.inl rfl, .inr rfl⟩

theorem slotKept_windowExpiry (c : Chan) (s : State) : SlotKept s (windowExpiry c s) := by
  unfold windowExpiry
  split
  · exact .ite ((slotKept_takeExchange ..).trans (slotKept_exchangeOutcome ..)) (.refl s)
  · exact .refl s

theorem slotKept_uplinkEnd (c : Chan) (average : Nat) (s : State) : SlotKept s (uplinkEnd c average s) := by
  unfold uplinkEnd
  split
  · exact .ite ((slotKept_takeExchange c _ s).trans (slotKept_exchangeOutcome ..)) (.refl s)
  · exact .refl s

/-! ### The steps of the feed switches -/

theorem slotKept_modSwitch (c : Chan) (f : FeedSwitch → FeedSwitch) (s : State) : SlotKept s (modSwitch c f s) :=
  slotKept_modChan_same rfl rfl

theorem slotKept_openLoadLost (c : Chan) (s : State) : SlotKept s (openLoadLost c s) := .ite (slotKept_goOpenLoad c s) (.refl s)

theorem slotKept_switchOnComplete (c : Chan) (s : State) : SlotKept s (switchOnComplete c s) := by
  unfold switchOnComplete
  split
  · exact .ite (slotKept_modSwitch ..) (.refl s)
  · exact .refl s

theorem slotKept_rampEnd (c : Chan) (s : State) : SlotKept s (rampEnd c s) := by
  unfold rampEnd
  simp only
  split
  · exact .ite (slotKept_modSwitch ..) (.refl s)
  · exact .refl s

theorem slotKept_chopPeriodStart (c : Chan) (s : State) : SlotKept s (chopPeriodStart c s) := by
  unfold chopPeriodStart
  simp only
  split
  · exact .ite (slotKept_modSwitch ..) (.refl s)
  · exact .refl s

theorem slotKept_faultFromSwitch (c : Chan) (cause : StateCause) (s : State) : SlotKept s (faultFromSwitch c cause s) :=
  .ite (slotKept_enterFaulted ..) (.refl s)

theorem slotKept_tripAssert (c : Chan) (s : State) : SlotKept s (tripAssert c s) := by
  unfold tripAssert
  simp only
  split
  · refine .ite ?_ (.refl s)
    exact .ite ((slotKept_modSwitch ..).trans (slotKept_faultFromSwitch ..)) (slotKept_modSwitch ..)
  · exact .refl s

theorem slotKept_overcurrentAssert (c : Chan) (s : State) : SlotKept s (overcurrentAssert c s) := by
  unfold overcurrentAssert
  simp only
  split
  · exact .ite (slotKept_faultFromSwitch ..) (.refl s)
  · exact .refl s

theorem slotKept_levelCrossing (c : Chan) (current : Nat) (instant : Fin 1001) (s : State) :
    SlotKept s (levelCrossing c current instant s) := by
  refine .ite (slotKept_modChan ?_) (.refl s)
  unfold senseCurrent
  split <;> exact .of_same rfl rfl

/-! ### The steps of the probe engine -/

theorem slotKept_actLine (c : Chan) (o : ProbeOutcome) (s : State) : SlotKept s (actLine c o s) := by
  have hline : ∀ r, SlotKept s (modChan c (fun ch => { ch with line := r }) s) := fun r => slotKept_modChan_same rfl rfl
  cases o with
  | short => exact (hline _).trans (slotKept_enterFaulted ..)
  | foreign => exact (hline _).trans (slotKept_enterFaulted ..)
  | signature =>
    unfold actLine
    refine slotKept_modChan ?_
    simp only
    split <;> exact .of_same rfl rfl
  | openLine => exact hline _
  | clear | crossed | cancelled | notQueued => exact .refl s

theorem slotKept_setPair (c : Chan) (r : PairResult) (s : State) : SlotKept s (modChan c (fun ch => { ch with pair := r }) s) :=
  slotKept_modChan_same rfl rfl

theorem slotKept_crossChannel (c partner : Chan) (s : State) : SlotKept s (crossChannel c partner s) :=
  (slotKept_setPair ..).trans (slotKept_enterFaulted ..)

theorem slotKept_actPair (c partner : Chan) (crossed : Bool) (s : State) : SlotKept s (actPair c partner crossed s) :=
  .ite (.ite ((slotKept_crossChannel ..).trans (slotKept_crossChannel ..)) (slotKept_crossChannel ..)) (slotKept_setPair ..)

theorem slotKept_endProbe (r : ProbeRequest) (o : ProbeOutcome) (v : Option Nat) (s : State) :
    SlotKept s (reportProbe r o v { s with probe := none }) := slotKept_of_channels (reportProbe_channels ..) rfl

theorem slotKept_probeEndLine (reading : Nat) (s : State) : SlotKept s (probeEndLine reading s) := by
  unfold probeEndLine
  split
  · refine .ite (SlotKept.trans ?_ (slotKept_look _)) (.refl s)
    exact .ite ((slotKept_endProbe ..).trans (slotKept_actLine ..)) (slotKept_endProbe ..)
  · exact .refl s

theorem slotKept_probeEndPair (reading : Nat) (s : State) : SlotKept s (probeEndPair reading s) := by
  unfold probeEndPair
  split
  · refine .ite (SlotKept.trans ?_ (slotKept_look _)) (.refl s)
    exact .ite ((slotKept_endProbe ..).trans (slotKept_actPair ..)) (slotKept_endProbe ..)
  · exact .refl s

/-! ### Commands -/

theorem slotKept_done (p : Port) (cmd : Cmd) (ws : List Word) (s : State) : SlotKept s (done p cmd ws s) :=
  slotKept_of_channels (done_channels ..) (by simp [slotClock, done])

theorem slotKept_refuse (p : Port) (cmd : Cmd) (o : ReplyCode) (s : State) : SlotKept s (refuse p cmd o s) :=
  slotKept_of_channels (refuse_channels ..) (by simp [slotClock, refuse])

theorem slotKept_doTake (p : Port) (s : State) : SlotKept s (doTake p s) := by
  unfold doTake
  split
  · exact (slotKept_modPort ..).trans (slotKept_done ..)
  · exact slotKept_refuse ..

theorem slotKept_doWatermark (p : Port) (arg : Word) (s : State) : SlotKept s (doWatermark p arg s) :=
  .ite ((slotKept_modPort ..).trans (slotKept_done ..)) (slotKept_refuse ..)

theorem slotKept_doSeek (p : Port) (arg : Word) (s : State) : SlotKept s (doSeek p arg s) := by
  unfold doSeek
  split
  · exact .ite ((slotKept_modPort ..).trans (slotKept_done ..)) (slotKept_refuse ..)
  · exact slotKept_refuse ..

theorem slotKept_readWord (p : Port) (s : State) : SlotKept s (readWord p s).2 := by
  obtain ⟨n, h⟩ := readWord_eq p s
  exact slotKept_of_channels (readWord_channels p s) (by rw [h]; simp [slotClock])

theorem slotKept_doRead (p : Port) (arg : Word) (s : State) : SlotKept s (doRead p arg s) := by
  have hwords : ∀ n u, SlotKept u (readWords p n u).2 := fun n => by
    induction n with
    | zero => exact .refl
    | succ n ih => exact fun u => (slotKept_readWord p u).trans (ih _)
  exact .ite ((hwords ..).trans (slotKept_done ..)) (slotKept_refuse ..)

theorem slotKept_edits (es : List Edit) (s : State) : SlotKept s { s with edits := es } :=
  slotKept_of_channels (t := { s with edits := es }) rfl rfl

theorem slotKept_doPost (p : Port) (w1 w2 : Word) (s : State) : SlotKept s (doPost p w1 w2 s) := by
  have happend : ∀ content, SlotKept s (appendEdit p content s) := fun _ =>
    ((slotKept_edits ..).trans (slotKept_modPort ..)).trans (slotKept_done ..)
  unfold doPost
  split
  · exact slotKept_refuse ..
  · refine .ite (slotKept_refuse ..) ?_
    split
    · exact slotKept_refuse ..
    · exact .ite (slotKept_refuse ..) (happend _)

theorem slotKept_account (g : Grant) (rp : Nat) (s : State) : SlotKept s { s with grant := g, reserve := rp } :=
  slotKept_of_channels (t := { s with grant := g, reserve := rp }) rfl rfl

theorem slotKept_doSetGrant (p : Port) (arg : Word) (s : State) : SlotKept s (doSetGrant p arg s) :=
  .ite (.ite ((slotKept_account _ s.reserve s).trans (slotKept_done ..)) (slotKept_refuse ..)) (slotKept_refuse ..)

theorem slotKept_doDeposit (p : Port) (arg : Word) (s : State) : SlotKept s (doDeposit p arg s) := by
  refine .ite (.ite ?_ (slotKept_refuse ..)) (slotKept_refuse ..)
  refine SlotKept.trans (slotKept_account s.grant (min reserveCap (s.reserve + bits 31 0 arg * 1000)) s) ?_
  exact SlotKept.trans (.ite (slotKept_report ..) (.refl _)) (slotKept_done ..)

theorem slotKept_doDrain (p : Port) (s : State) : SlotKept s (doDrain p s) :=
  .ite ((slotKept_account s.grant 0 s).trans (slotKept_done ..)) (slotKept_refuse ..)

/-- The feed turning OFF ends every exchange (R24). -/
theorem slotKept_feedOff (changer : Port) (portReset : Bool) (s : State) : SlotKept s (feedOff changer portReset s) where
  clock := by simp [slotClock, feedOff, reportFeedState]
  lines c := by
    rw [chanAt_feedOff]
    exact .of_gone rfl rfl

theorem slotKept_feedOn (changer : Port) (s : State) : SlotKept s (feedOn changer s) :=
  slotKept_of_channels (feedOn_channels ..) (by simp [slotClock, feedOn, reportFeedState])

theorem slotKept_doVote (p : Port) (arg : Word) (s : State) : SlotKept s (doVote p arg s) := by
  have hset : ∀ on, SlotKept s (setVote p on s) := fun _ => slotKept_modPort ..
  unfold doVote
  split
  · exact SlotKept.trans (.ite ((hset false).trans (slotKept_feedOff ..)) (hset false)) (slotKept_done ..)
  · exact SlotKept.trans (.ite ((hset true).trans (slotKept_feedOn ..)) (hset true)) (slotKept_done ..)
  · exact slotKept_refuse ..

theorem slotKept_doResetPort (p : Port) (s : State) : SlotKept s (doResetPort p s) := by
  have hcleared : SlotKept s (portCleared p s) := slotKept_of_channels (portCleared_channels p s).1 (by cases p <;> rfl)
  exact SlotKept.trans (.ite (hcleared.trans (slotKept_feedOff ..)) hcleared) (slotKept_done ..)

theorem slotKept_channelCommand {p : Port} {cmd : Cmd} {arg : Word} {s : State} {act : Chan → State}
    (h : ∀ c, SlotKept s (act c)) : SlotKept s (channelCommand p cmd arg s act) := by
  refine .ite ?_ (slotKept_refuse ..)
  split
  · exact h _
  · exact slotKept_refuse ..

/-- A change answered DONE with the channel's state. -/
theorem SlotKept.doneChan {s t : State} (h : SlotKept s t) (p : Port) (cmd : Cmd) (c : Chan) :
    SlotKept s (doneChan p cmd c t) := h.trans (slotKept_done ..)

theorem slotKept_doProbe (p : Port) (arg : Word) (s : State) : SlotKept s (doProbe p arg s) := by
  refine slotKept_channelCommand fun c => .ite (slotKept_refuse ..) (.ite (slotKept_refuse ..) ?_)
  have hqueue : ∀ q, SlotKept s { s with probeQueue := q } := fun q =>
    slotKept_of_channels (t := { s with probeQueue := q }) rfl rfl
  have happend : ∀ r, SlotKept s (appendProbe r s) := fun r => (hqueue _).trans (slotKept_look _)
  exact .ite (slotKept_done ..) (.ite ((happend _).trans (slotKept_done ..)) (slotKept_refuse ..))

theorem slotKept_doWake (p : Port) (arg : Word) (s : State) : SlotKept s (doWake p arg s) :=
  slotKept_channelCommand fun c =>
    .ite ((SlotKept.trans (slotKept_modChan_same rfl rfl) (slotKept_cancelProbe c _)).doneChan ..) (slotKept_refuse ..)

theorem slotKept_doRetire (p : Port) (arg : Word) (s : State) : SlotKept s (doRetire p arg s) :=
  slotKept_channelCommand fun _ =>
    .ite (slotKept_refuse ..) (((slotKept_enterRetired ..).trans (slotKept_cancelProbe ..)).doneChan ..)

theorem slotKept_doRelease (p : Port) (arg : Word) (s : State) : SlotKept s (doRelease p arg s) :=
  slotKept_channelCommand fun c =>
    .ite ((SlotKept.trans (slotKept_modChan_same rfl rfl) (slotKept_enterDark c ..)).doneChan ..) (slotKept_refuse ..)

theorem slotKept_doClearFault (p : Port) (arg : Word) (s : State) : SlotKept s (doClearFault p arg s) :=
  slotKept_channelCommand fun _ =>
    .ite (slotKept_refuse ..) (.ite ((slotKept_enterDark ..).doneChan ..) (slotKept_refuse ..))

theorem slotKept_doTest (p : Port) (arg : Word) (s : State) : SlotKept s (doTest p arg s) :=
  slotKept_channelCommand fun _ => .ite (slotKept_refuse ..) (.ite (slotKept_refuse ..) (.ite (slotKept_refuse ..)
    (.ite (slotKept_refuse ..) ((slotKept_modChan_same rfl rfl).doneChan ..))))

theorem slotKept_endTest (c : Chan) (o : TestOutcome) (s : State) : SlotKept s (endTest c o s) := by
  unfold endTest
  split
  · exact SlotKept.trans (slotKept_modChan_same rfl rfl) (slotKept_reportChan ..)
  · exact .refl s

theorem slotKept_doAbortTest (p : Port) (arg : Word) (s : State) : SlotKept s (doAbortTest p arg s) := by
  refine slotKept_channelCommand fun c => ?_
  simp only
  split
  · exact slotKept_refuse ..
  · split
    · exact .ite (slotKept_refuse ..) ((slotKept_endTest ..).doneChan ..)
    · exact SlotKept.doneChan (slotKept_modChan_same rfl rfl) ..
    · exact slotKept_refuse ..

theorem slotKept_doSend (p : Port) (arg : Word) (s : State) : SlotKept s (doSend p arg s) := by
  refine slotKept_channelCommand fun c => ?_
  simp only
  split
  · exact slotKept_refuse ..
  · exact .ite (slotKept_refuse ..) (.ite (slotKept_refuse ..) (.ite (slotKept_refuse ..)
      ((slotKept_withMailbox c _ s).doneChan ..)))

theorem slotKept_runCommand (cmd : Cmd) (p : Port) (args : List Word) (s : State) : SlotKept s (runCommand cmd p args s) := by
  cases cmd with
  | nop => exact slotKept_done ..
  | status => exact slotKept_done ..
  | seek => exact slotKept_doSeek ..
  | read => exact slotKept_doRead ..
  | take => exact slotKept_doTake ..
  | ack => exact (slotKept_modPort ..).trans (slotKept_done ..)
  | mask => exact (slotKept_modPort ..).trans (slotKept_done ..)
  | watermark => exact slotKept_doWatermark ..
  | vote => exact slotKept_doVote ..
  | resetPort => exact slotKept_doResetPort ..
  | post => exact slotKept_doPost ..
  | cancelEdits => exact (slotKept_edits ..).trans (slotKept_done ..)
  | probe => exact slotKept_doProbe ..
  | wake => exact slotKept_doWake ..
  | retire => exact slotKept_doRetire ..
  | release => exact slotKept_doRelease ..
  | clearFault => exact slotKept_doClearFault ..
  | test => exact slotKept_doTest ..
  | abortTest => exact slotKept_doAbortTest ..
  | send => exact slotKept_doSend ..
  | setGrant => exact slotKept_doSetGrant ..
  | deposit => exact slotKept_doDeposit ..
  | drain => exact slotKept_doDrain ..

theorem Runs.slotKept {s t : State} (h : Runs s t) : SlotKept s t := by
  induction h with
  | framed h => exact slotKept_of_channels (congrArg State.channels h :) (congrArg slotClock h :)
  | command cmd p args s => exact slotKept_runCommand cmd p args s
  | trans _ _ ih1 ih2 => exact ih1.trans ih2

end Sys2Proof.Machine
end

/-! ## Every step keeps every exchange inside its slot, with the marks that have closed (R103, R104, R108 to R110)

`RunsInSlot` is what `ExchangeInSlot` asks of an exchange in flight, by its phase. -/

section
namespace Sys2Proof.Machine

/-! ### One exchange in its slot -/

/-- An uplink that began at `a` µs (R108, R109): at an instant of its window, with the marks received that have closed, but for
the 24th. -/
structure UplinkTold (now a : Nat) (e : Exchange) : Prop where
  afterOpening : us e.start + 32000 ≤ a
  beforeExpiry : a ≤ us e.start + 51500
  marks : e.marks.length = min 23 ((us now - a) / 2000)

/-- An exchange in flight at `now` ms, in a slot that ends at `stop` ms. -/
structure RunsInSlot (now stop : Nat) (e : Exchange) : Prop where
  ahead : us now ≤ exchangeDeadline e
  room : e.start + 100 ≤ stop
  uplink : e.phase = .uplink → ∃ a, e.answerStart = some a ∧ UplinkTold now a e
  unmarked : e.phase ≠ .uplink → e.marks = []

theorem exchangeInSlot_iff (now stop : Nat) (ch : Channel) : ExchangeInSlot now stop ch ↔
    (∀ t, ch.placement = some t → now ≤ t ∧ t + 100 ≤ stop) ∧ (∀ e, ch.exchange = some e → RunsInSlot now stop e) := by
  unfold ExchangeInSlot
  refine and_congr ?_ ?_
  · cases ch.placement <;> simp
  · cases ch.exchange with
    | none => simp
    | some e =>
      simp only [Option.some.injEq, forall_eq']
      constructor
      · rintro ⟨hahead, hroom, hmarks⟩
        refine ⟨hahead, hroom, fun hp => ?_, fun hp => ?_⟩
        · cases ha : e.answerStart with
          | none => simp [hp, ha] at hmarks
          | some a =>
            simp only [hp, ha] at hmarks
            obtain ⟨hafter, hbefore, hlen⟩ := hmarks
            exact ⟨a, rfl, hafter, hbefore, hlen⟩
        · cases hphase : e.phase with
          | uplink => exact absurd hphase hp
          | downlink => simpa [hphase] using hmarks
          | window => simpa [hphase] using hmarks
      · rintro ⟨hahead, hroom, huplink, hunmarked⟩
        refine ⟨hahead, hroom, ?_⟩
        cases hphase : e.phase with
        | uplink =>
          obtain ⟨a, ha, hafter, hbefore, hlen⟩ := huplink hphase
          simp only [ha]
          exact ⟨hafter, hbefore, hlen⟩
        | downlink => exact hunmarked (by simp [hphase])
        | window => exact hunmarked (by simp [hphase])

/-- A line whose placement and exchange stay or are gone is as well inside its slot. -/
theorem ExchangeInSlot.of_kept {now stop : Nat} {x y : Channel} (h : ExchangeInSlot now stop x) (k : LineKept x y) :
    ExchangeInSlot now stop y := by
  rw [exchangeInSlot_iff] at h ⊢
  obtain ⟨hp, he⟩ := h
  refine ⟨fun t ht => ?_, fun e hsome => ?_⟩
  · rcases k.placement with hk | hk
    · exact hp t (hk ▸ ht)
    · simp [hk] at ht
  · rcases k.exchange with hk | hk
    · exact he e (hk ▸ hsome)
    · simp [hk] at hsome

/-- A later slot end leaves more room. -/
theorem RunsInSlot.mono {now stop stop' : Nat} {e : Exchange} (h : RunsInSlot now stop e) (hle : stop ≤ stop') :
    RunsInSlot now stop' e := { h with room := Nat.le_trans h.room hle }

/-- The latest instant at which an exchange ends lies 0.5 ms before the slot end (R110). -/
theorem RunsInSlot.deadline_lt {now stop : Nat} {e : Exchange} (h : RunsInSlot now stop e) :
    exchangeDeadline e + 500 ≤ us stop := by
  have hroom := h.room
  unfold exchangeDeadline us
  cases hp : e.phase with
  | downlink => simp only [downlinkTime]; omega
  | window => simp only [windowTime]; omega
  | uplink =>
    obtain ⟨a, ha, hafter, hbefore, -⟩ := h.uplink hp
    simp only [ha, Option.getD_some, uplinkUs]
    unfold us at hbefore
    omega

/-- At the slot end no placement and no exchange is left (R110). -/
theorem ExchangeInSlot.none_left {now : Nat} {ch : Channel} (h : ExchangeInSlot now now ch) :
    ch.placement = none ∧ ch.exchange = none := by
  obtain ⟨hp, he⟩ := (exchangeInSlot_iff ..).1 h
  refine ⟨Option.eq_none_iff_forall_ne_some.2 fun t ht => ?_, Option.eq_none_iff_forall_ne_some.2 fun e hsome => ?_⟩
  · obtain ⟨hahead, hroom⟩ := hp t ht
    omega
  · have hahead := (he e hsome).ahead
    have hend := (he e hsome).deadline_lt
    omega

/-- A placement of a slot start lies ahead and leaves 100 ms of the slot (R104). -/
theorem placementOf_fits {now len t : Nat} {ch : Channel} (h : placementOf now len ch = some t) :
    now ≤ t ∧ t + 100 ≤ now + len := by
  unfold placementOf at h
  simp only [Option.ite_none_right_eq_some, Option.some.injEq] at h
  obtain ⟨hroom, rfl⟩ := h
  refine ⟨Nat.le_trans ?_ (Nat.le_add_right _ _), hroom⟩
  split
  · exact Nat.le_max_left _ _
  · exact Nat.le_refl _

/-! ### The steps of an exchange -/

theorem RunsInSlot.started {now stop t : Nat} (ch : Channel) (hahead : now ≤ t) (hroom : t + 100 ≤ stop) {e : Exchange}
    (he : (startExchange t ch).exchange = some e) : RunsInSlot now stop e := by
  cases he
  exact ⟨Nat.mul_le_mul_left 1000 (Nat.le_add_right_of_le hahead), hroom, nofun, fun _ => rfl⟩

theorem RunsInSlot.windowOpened {now stop : Nat} {e : Exchange} (h : RunsInSlot now stop e) (hp : e.phase = .downlink)
    (baseline : Nat) : RunsInSlot now stop { e with phase := .window, baseline := baseline } where
  ahead := by
    have hahead := h.ahead
    simp only [exchangeDeadline, hp, us, downlinkTime] at hahead
    simp only [exchangeDeadline, us, windowTime]
    omega
  room := h.room
  uplink := nofun
  unmarked _ := h.unmarked (by simp [hp])

theorem RunsInSlot.answered {now stop : Nat} {e : Exchange} (h : RunsInSlot now stop e) (hp : e.phase = .window)
    {instant : Fin 1001} {rise : Rise} (hbegins : answerBegins e (us now + instant.val) rise = true) :
    RunsInSlot now stop { e with phase := .uplink, answerStart := some (us now + instant.val - answerHoldUs) } := by
  obtain ⟨hopen, hexpiry, -⟩ := (answerBegins_iff ..).1 hbegins
  have hnil : e.marks = [] := h.unmarked (by simp [hp])
  refine ⟨?_, h.room, fun _ => ⟨_, rfl, ?_, ?_, ?_⟩, fun hne => absurd rfl hne⟩
  all_goals simp only [exchangeDeadline, us, answerHoldUs, uplinkUs, hnil, List.length_nil, Option.getD_some] at *
  all_goals omega

/-- At the close of a millisecond the mark that closes in it is received (R103, R109). -/
theorem UplinkTold.received {now a : Nat} {e : Exchange} (h : UplinkTold now a e) (hp : e.phase = .uplink)
    (ha : e.answerStart = some a) (average : Nat) : UplinkTold (now + 1) a (receiveMark (now + 1) average e) := by
  obtain ⟨hafter, hbefore, hlen⟩ := h
  by_cases hmark : e.marks.length < 23 ∧ a + 2000 * (e.marks.length + 1) ≤ us (now + 1)
  · rw [receiveMark_of_closed hp ha hmark.1 hmark.2]
    refine ⟨hafter, hbefore, ?_⟩
    simp only [List.length_append, List.length_singleton, us] at *
    omega
  · rw [receiveMark_of_open fun a' _ ha' => by rw [ha] at ha'; cases ha'; omega]
    refine ⟨hafter, hbefore, ?_⟩
    simp only [us] at *
    omega

theorem RunsInSlot.received {now stop : Nat} {e : Exchange} (h : RunsInSlot now stop e)
    (hdue : us (now + 1) ≤ exchangeDeadline e) (average : Nat) :
    RunsInSlot (now + 1) stop (receiveMark (now + 1) average e) := by
  by_cases hp : e.phase = .uplink
  · obtain ⟨a, ha, htold⟩ := h.uplink hp
    have hreceived := htold.received hp ha average
    obtain ⟨ms, heq, -⟩ := receiveMark_frame (now + 1) average e
    rw [heq] at hreceived ⊢
    exact ⟨hdue, h.room, fun _ => ⟨a, ha, hreceived⟩, fun hne => absurd hp hne⟩
  · rw [receiveMark_of_open fun a hp' => absurd hp' hp]
    exact ⟨hdue, h.room, fun hp' => absurd hp' hp, h.unmarked⟩

/-! ### What every step keeps -/

/-- A step keeps every exchange inside its slot. -/
structure FitKept (s t : State) : Prop where
  fits : ExchangesFit s → ExchangesFit t

theorem FitKept.refl (s : State) : FitKept s s := ⟨id⟩

theorem FitKept.trans {s t u : State} (h : FitKept s t) (k : FitKept t u) : FitKept s u := ⟨k.fits ∘ h.fits⟩

theorem FitKept.ite {s t u : State} {q : Prop} [Decidable q] (ht : FitKept s t) (hu : FitKept s u) :
    FitKept s (if q then t else u) := by split <;> assumption

theorem slotClock_eq_iff {s t : State} : slotClock t = slotClock s ↔
    t.ms = s.ms ∧ t.layout.len = s.layout.len ∧ t.slotTime = s.slotTime ∧ t.phase = s.phase := by simp [slotClock]

/-- A step within a millisecond that keeps each line inside the slot, or leaves it out of use. -/
theorem fitKept_of_lines {s t : State} (hclock : slotClock t = slotClock s)
    (hrunning : s.phase = .running → ∀ c stop, ExchangeInSlot s.ms stop (chanAt s c) → ExchangeInSlot s.ms stop (chanAt t c))
    (hidle : s.phase ≠ .running → ∀ c, (chanAt s c).placement = none ∧ (chanAt s c).exchange = none →
      (chanAt t c).placement = none ∧ (chanAt t c).exchange = none) : FitKept s t := by
  obtain ⟨hms, hlen, htime, hphase⟩ := slotClock_eq_iff.1 hclock
  refine ⟨fun ⟨hle, hin, hout⟩ => ⟨by rw [htime, hlen]; exact hle, fun hp c => ?_, fun hp c => ?_⟩⟩
  · rw [hphase] at hp
    rw [hms, hlen, htime]
    exact hrunning hp c _ (hin hp c)
  · rw [hphase] at hp
    exact hidle hp c (hout hp c)

theorem LineKept.none_of_none {x y : Channel} (k : LineKept x y) (h : x.placement = none ∧ x.exchange = none) :
    y.placement = none ∧ y.exchange = none :=
  ⟨k.placement.elim (fun hk => hk.trans h.1) id, k.exchange.elim (fun hk => hk.trans h.2) id⟩

theorem SlotKept.fitKept {s t : State} (h : SlotKept s t) : FitKept s t :=
  fitKept_of_lines h.clock (fun _ c _ hin => hin.of_kept (h.lines c)) fun _ c => (h.lines c).none_of_none

/-! ### The steps of the line exchange units -/

/-- A channel takes up an exchange that lies inside the slot, where it has a placement or an exchange to take it from. -/
theorem fitKept_modChan_line {c : Chan} {f : Channel → Channel} {s : State}
    (hbusy : (chanAt s c).placement ≠ none ∨ (chanAt s c).exchange ≠ none)
    (h : ∀ stop, ExchangeInSlot s.ms stop (chanAt s c) → ExchangeInSlot s.ms stop (f (chanAt s c))) :
    FitKept s (modChan c f s) := by
  refine fitKept_of_lines rfl (fun _ d stop hin => ?_) fun _ d hout => ?_
  · rw [chanAt_modChan]
    split
    · rename_i hd
      exact h stop (hd ▸ hin)
    · exact hin
  · rw [chanAt_modChan]
    split
    · rename_i hd
      subst hd
      rcases hbusy with hne | hne
      · exact absurd hout.1 hne
      · exact absurd hout.2 hne
    · exact hout

theorem fitKept_exchangeStart (c : Chan) (s : State) : FitKept s (exchangeStart c s) := by
  unfold exchangeStart
  simp only
  split
  · rename_i t ht
    refine .ite (fitKept_modChan_line (.inl (by simp [ht])) fun stop hin => ?_) (.refl s)
    obtain ⟨hahead, hroom⟩ := ((exchangeInSlot_iff ..).1 hin).1 t ht
    exact (exchangeInSlot_iff ..).2 ⟨nofun, fun e he => .started _ hahead hroom he⟩
  · exact .refl s

/-- The exchange in flight changes, and stays inside the slot. -/
theorem fitKept_setExchange {c : Chan} {s : State} {e e' : Exchange} (he : (chanAt s c).exchange = some e)
    (h : ∀ stop, RunsInSlot s.ms stop e → RunsInSlot s.ms stop e') : FitKept s (setExchange c e' s) := by
  refine fitKept_modChan_line (.inr (by simp [he])) fun stop hin => ?_
  obtain ⟨hplaced, hruns⟩ := (exchangeInSlot_iff ..).1 hin
  exact (exchangeInSlot_iff ..).2 ⟨hplaced, fun x hx => by cases hx; exact h stop (hruns e he)⟩

theorem fitKept_downlinkEnd (c : Chan) (baseline : Nat) (s : State) : FitKept s (downlinkEnd c baseline s) := by
  unfold downlinkEnd
  split
  · rename_i e he
    split
    · rename_i hdue
      simp only [Bool.and_eq_true, decide_eq_true_eq] at hdue
      exact fitKept_setExchange he fun _ h => h.windowOpened hdue.1 baseline
    · exact .refl s
  · exact .refl s

theorem fitKept_answerStart (c : Chan) (instant : Fin 1001) (rise : Rise) (s : State) :
    FitKept s (answerStart c instant rise s) := by
  unfold answerStart
  simp only
  split
  · rename_i e he
    split
    · rename_i hdue
      simp only [Bool.and_eq_true, decide_eq_true_eq] at hdue
      obtain ⟨⟨hp, hbegins⟩, -⟩ := hdue
      exact fitKept_setExchange he fun _ h => h.answered hp hbegins
    · exact .refl s
  · exact .refl s

/-! ### The steps of the timebase -/

theorem exchangesFit_resetWith (q : List Instr) (n : Nat) : ExchangesFit (resetWith q n) := by
  refine ⟨Nat.zero_le _, fun _ c => ?_, fun hp => absurd rfl hp⟩
  rw [chanAt_resetWith]
  exact (exchangeInSlot_iff ..).2 ⟨nofun, nofun⟩

/-- A millisecond closes before anything that is due after it (R3): what lies ahead still does. -/
theorem ExchangeInSlot.sampled {now stop : Nat} {ch : Channel} (h : ExchangeInSlot now stop ch)
    (hdue : ∀ d ∈ chanDeadlines now ch, us (now + 1) ≤ d) (v : Nat) (r : Reading) :
    ExchangeInSlot (now + 1) stop (sampleChannel (now + 1) v r ch) := by
  obtain ⟨-, -, -, hplaced, hrunning, -⟩ := (le_chanDeadlines_iff ..).1 hdue
  obtain ⟨hp, he⟩ := (exchangeInSlot_iff ..).1 h
  obtain ⟨m, so, n, due, hframe⟩ := sampleChannel_frame (now + 1) v r ch
  rw [hframe, exchangeInSlot_iff]
  refine ⟨fun t ht => ⟨Nat.le_of_mul_le_mul_left (hplaced t ht) (by decide), (hp t ht).2⟩, fun e hsome => ?_⟩
  obtain ⟨x, hx, rfl⟩ := Option.map_eq_some_iff.1 hsome
  exact (he x hx).received (hrunning x hx) r.average

theorem slotClock_sampleEvent (bus : Nat) (readings : Vector Reading 24) (s : State) :
    slotClock (sampleEvent bus readings s) = (s.ms + 1, s.layout.len, s.slotTime + 1, s.phase) := by
  rw [sampleEvent_eq]
  rfl

theorem fitKept_sampleEvent {s : State} (h : sampleReady s = true) (bus : Nat) (readings : Vector Reading 24) :
    FitKept s (sampleEvent bus readings s) := ⟨fun ⟨_, hin, _⟩ => by
  obtain ⟨hp, hlt, ht⟩ := (sampleReady_iff s).1 h
  obtain ⟨-, -, -, hdue⟩ := (timely_iff_spelled ..).1 ht
  have hclock := slotClock_sampleEvent bus readings s
  simp only [slotClock, Prod.mk.injEq] at hclock
  obtain ⟨hms, hlen, htime, hphase⟩ := hclock
  have hstop : s.ms + 1 + s.layout.len - (s.slotTime + 1) = s.ms + s.layout.len - s.slotTime := by omega
  unfold ExchangesFit
  rw [hms, hlen, htime, hphase, hstop]
  refine ⟨hlt, fun _ c => ?_, fun hne => absurd hp hne⟩
  rw [chanAt_sampleEvent]
  exact (hin hp c).sampled (hdue c) ..⟩

theorem lineKept_closeEntries (l : List Entry) (s : State) (c : Chan) :
    LineKept (chanAt s c) (chanAt (l.foldl closeEntry s) c) :=
  List.foldlRecOn l closeEntry (motive := fun u => LineKept (chanAt s c) (chanAt u c)) (.refl _) fun u hu e _ => by
    rw [chanAt_closeEntry]
    split
    · exact hu.trans (.of_same rfl rfl)
    · exact hu

theorem fitKept_slotEnd {s : State} (h : slotEndReady s = true) : FitKept s (slotEnd s) := ⟨fun ⟨hle, hin, _⟩ => by
  obtain ⟨hp, htime, -⟩ := (slotEndReady_iff s).1 h
  have hnone : ∀ c, (chanAt (slotEnd s) c).placement = none ∧ (chanAt (slotEnd s) c).exchange = none := fun c => by
    have hleft := hin hp c
    rw [htime, Nat.add_sub_cancel] at hleft
    rw [chanAt_slotEnd]
    exact ((lineKept_closeEntries s.admitted s c).trans (.of_same rfl rfl)).none_of_none hleft.none_left
  obtain ⟨cs, en, fr, rp, ta, heq, -⟩ := slotEnd_frame s
  have htimes : (slotEnd s).slotTime = s.slotTime ∧ (slotEnd s).layout = s.layout ∧ (slotEnd s).phase = .ended := by
    rw [heq]
    exact ⟨rfl, rfl, rfl⟩
  obtain ⟨hslotTime, hlayout, hended⟩ := htimes
  exact ⟨by rw [hslotTime, hlayout]; exact hle, fun hrun => by simp [hended] at hrun, fun _ => hnone⟩⟩

theorem lineKept_countFrame (ch : Channel) : LineKept ch (countFrame ch) := by
  unfold countFrame
  split
  · split
    · simp only
      split <;> exact .of_same rfl rfl
    · exact .refl ch
  · exact .refl ch

theorem lineKept_frameOpening (s : State) (c : Chan) : LineKept (chanAt s c) (chanAt (frameOpening s) c) := by
  rw [chanAt_frameOpening]
  refine LineKept.trans ?_ (lineKept_countFrame _)
  refine List.foldlRecOn s.edits applyEdit (motive := fun u => LineKept (chanAt s c) (chanAt u c)) (.refl _) fun u hu e _ => ?_
  rcases chanAt_applyEdit u e c with heq | ⟨cfg, t, -, heq⟩
  · rw [heq]
    exact hu
  · rw [heq]
    exact hu.trans (.of_same rfl rfl)

theorem fitKept_frameOpening {s : State} (h : frameOpeningReady s = true) : FitKept s (frameOpening s) :=
  ⟨fun ⟨_, _, hout⟩ => by
    obtain ⟨hp, -⟩ := (frameOpeningReady_iff s).1 h
    have hnone : ∀ c, (chanAt (frameOpening s) c).placement = none ∧ (chanAt (frameOpening s) c).exchange = none := fun c =>
      (lineKept_frameOpening s c).none_of_none (hout (by simp [hp]) c)
    obtain ⟨ro, la, gl, st, df, fl, al, cs, sv, en, hedited⟩ := applyEdit_foldl_frame s.edits (advanceFrame s)
    have htime : (frameOpening s).slotTime = 0 := by
      rw [frameOpening_frame, editedFrame, hedited]
      rfl
    have hopened : (frameOpening s).phase = .opened := by rw [frameOpening_frame]
    exact ⟨by rw [htime]; exact Nat.zero_le _, fun hrun => by simp [hopened] at hrun, fun _ => hnone⟩⟩

/-- At a slot start an exchange can only be one that already lay inside the slot that starts. -/
theorem ExchangesFit.exchange_in_slot {s : State} (h : ExchangesFit s) {c : Chan} {e : Exchange}
    (he : (chanAt s c).exchange = some e) : RunsInSlot s.ms (s.ms + s.layout.len) e := by
  obtain ⟨-, hin, hout⟩ := h
  by_cases hp : s.phase = .running
  · exact (((exchangeInSlot_iff ..).1 (hin hp c)).2 e he).mono (Nat.sub_le _ _)
  · rw [(hout hp c).2] at he
    cases he

/-- A slot start leaves an exchange and places a new one by R104. -/
theorem slotStartChannel_line (g : Globals) (now len : Nat) (listed exchange : Bool) (ch : Channel) :
    (slotStartChannel g now len listed exchange ch).exchange = ch.exchange ∧
      ∀ t, (slotStartChannel g now len listed exchange ch).placement = some t → now ≤ t ∧ t + 100 ≤ now + len := by
  cases listed
  · rw [slotStartChannel_of_unlisted]
    exact ⟨rfl, nofun⟩
  · rw [slotStartChannel_of_listed]
    refine ⟨rfl, fun t ht => ?_⟩
    simp only [Option.ite_none_right_eq_some] at ht
    exact placementOf_fits ht.2

theorem fitKept_slotAdmitted (s : State) : FitKept s (slotAdmitted s) := ⟨fun hs => by
  have hin : ∀ c, ExchangeInSlot s.ms (s.ms + s.layout.len - 0) (chanAt (slotAdmitted s) c) := fun c => by
    obtain ⟨n, hn, -⟩ := chanAt_countSheds_range (slotBudget s).shed (slotBase s) c
    rw [chanAt_slotAdmitted, hn, chanAt_slotBase, exchangeInSlot_iff]
    obtain ⟨hex, hplaced⟩ := slotStartChannel_line s.globals s.ms s.layout.len
      ((slotBudget s).entries.any fun e => e.chan = c) (currentRow (slotBase s)).exchange { chanAt s c with shed := n }
    exact ⟨hplaced, fun e he => hs.exchange_in_slot (hex ▸ he)⟩
  obtain ⟨low, en, ta, heq⟩ := slotAdmitted_policy s
  rw [heq]
  exact ⟨Nat.zero_le _, fun _ => hin, fun hp => absurd rfl hp⟩⟩

theorem fitKept_beginSlot (s : State) : FitKept s (beginSlot s) := by
  rw [beginSlot_eq]
  exact .ite ((fitKept_slotAdmitted s).trans (slotKept_look _).fitKept) (fitKept_slotAdmitted s)

/-! ### Every step -/

theorem fitKept_startWrite (r : Bool) (index : Nat) (adr1 adr0 : Bool) (s : State) :
    FitKept s { s with inReset := r, slotIndex := index, strap1 := adr1, strap0 := adr0 } := ⟨id⟩

theorem fitKept_whenLive {s t : State} (h : FitKept s t) : AnswersWith FitKept s (whenLive s t) := ⟨_, rfl, .ite (.refl s) h⟩

theorem slotKept_whenLive {s t : State} (h : SlotKept s t) : AnswersWith FitKept s (whenLive s t) := fitKept_whenLive h.fitKept

/-- A step of the timebase that is kept where it is due. -/
theorem fitKept_ready {s t : State} {ready : Bool} (h : ready = true → FitKept s t) :
    AnswersWith FitKept s (whenLive s (if ready then t else s)) := by
  refine fitKept_whenLive ?_
  split
  · exact h ‹_›
  · exact .refl s

theorem exec_fitKept (i : Instr) (s : State) : AnswersWith FitKept s (exec i s) := by
  cases hp : commandPort i with
  | some p =>
    obtain ⟨t, ht, hruns⟩ := exec_runs hp s
    exact ⟨t, ht, hruns.slotKept.fitKept⟩
  | none =>
    cases i with
    | deviceReset => exact ⟨_, rfl, ⟨fun _ => exchangesFit_resetWith s.pending s.freeCount⟩⟩
    | resetRelease adr1 adr0 =>
      exact ⟨_, rfl, .ite ((fitKept_startWrite false s.slotIndex adr1 adr0 s).trans (fitKept_beginSlot _)) (.refl s)⟩
    | sampleEvent bus readings => exact fitKept_ready fun h => fitKept_sampleEvent h ..
    | slotEnd => exact fitKept_ready fitKept_slotEnd
    | frameOpening => exact fitKept_ready fitKept_frameOpening
    | slotStart =>
      refine fitKept_ready fun h => ?_
      rw [slotStart_eq h]
      exact (fitKept_startWrite s.inReset _ s.strap1 s.strap0 s).trans (fitKept_beginSlot _)
    | exchangeStart c => exact fitKept_whenLive (fitKept_exchangeStart c s)
    | downlinkEnd c b => exact fitKept_whenLive (fitKept_downlinkEnd c b s)
    | answerStart c instant rise => exact fitKept_whenLive (fitKept_answerStart c instant rise s)
    | windowExpiry c => exact slotKept_whenLive (slotKept_windowExpiry c s)
    | uplinkEnd c average => exact slotKept_whenLive (slotKept_uplinkEnd c average s)
    | openLoadLost c => exact slotKept_whenLive (slotKept_openLoadLost c s)
    | switchOnComplete c => exact slotKept_whenLive (slotKept_switchOnComplete c s)
    | rampEnd c => exact slotKept_whenLive (slotKept_rampEnd c s)
    | chopPeriodStart c => exact slotKept_whenLive (slotKept_chopPeriodStart c s)
    | tripAssert c => exact slotKept_whenLive (slotKept_tripAssert c s)
    | overcurrentAssert c => exact slotKept_whenLive (slotKept_overcurrentAssert c s)
    | detectorLevelCrossing c current instant => exact slotKept_whenLive (slotKept_levelCrossing c current instant s)
    | probeEndLine reading => exact slotKept_whenLive (slotKept_probeEndLine reading s)
    | probeEndPair reading => exact slotKept_whenLive (slotKept_probeEndPair reading.val s)
    | _ => cases hp

/-- Settles O58: every step keeps each placement and exchange inside the slot that runs. -/
theorem exchangesKeepInsideSlot : Obligations.ExchangesKeepInsideSlot := by
  unfold Obligations.ExchangesKeepInsideSlot
  intro s t hs h
  unfold step at h
  split at h
  · cases h
    exact hs
  · rename_i i rest _
    exact ((exec_fitKept i _).elim h).fits hs

end Sys2Proof.Machine
end

/-! ## Line messages: fields and their marks, the check, and the reading of an uplink (R107, R109, R111, R113, chapter 12.1) -/

section
namespace Sys2Proof.Machine

/-! ### Fields and their marks -/

theorem valueOf_append_singleton (ms : List Bool) (m : Bool) : valueOf (ms ++ [m]) = 2 * valueOf ms + m.toNat := by
  simp [valueOf, List.foldl_append]

/-- What the marks after a field's first ones add to it. -/
theorem foldl_value (ms : List Bool) (v : Nat) :
    ms.foldl (fun v m => 2 * v + m.toNat) v = v * 2 ^ ms.length + valueOf ms := by
  induction ms generalizing v with
  | nil => simp [valueOf]
  | cons m ms ih =>
    have hfirst : valueOf (m :: ms) = ms.foldl (fun v m => 2 * v + m.toNat) (2 * 0 + m.toNat) := rfl
    rw [List.foldl_cons, ih, hfirst, ih, List.length_cons, Nat.pow_succ]
    ring

theorem valueOf_cons (m : Bool) (ms : List Bool) : valueOf (m :: ms) = 2 ^ ms.length * m.toNat + valueOf ms := by
  rw [valueOf, List.foldl_cons, foldl_value]
  ring

theorem valueOf_lt (ms : List Bool) : valueOf ms < 2 ^ ms.length := by
  simpa [valueOf] using valueOf_foldl_lt ms 0

@[simp] theorem length_marksOf (k v : Nat) : (marksOf k v).length = k := by
  induction k with
  | zero => rfl
  | succ k ih => rw [marksOf, List.length_cons, ih]

theorem marksOf_succ (k v : Nat) : marksOf (k + 1) v = decide (v / 2 ^ k % 2 = 1) :: marksOf k v := by
  rw [marksOf, Nat.testBit_eq_decide_div_mod_eq]

/-- The marks of a field read back. -/
theorem valueOf_marksOf (k v : Nat) : valueOf (marksOf k v) = v % 2 ^ k := by
  induction k with
  | zero => simp [marksOf, valueOf, Nat.mod_one]
  | succ k ih => rw [marksOf, valueOf_cons, length_marksOf, ih, Nat.toNat_testBit, Nat.mod_pow_succ, Nat.add_comm]

theorem valueOf_marksOf_of_lt {k v : Nat} (h : v < 2 ^ k) : valueOf (marksOf k v) = v := by
  rw [valueOf_marksOf, Nat.mod_eq_of_lt h]

/-- Marks of the same number that read alike are the same. -/
theorem eq_of_valueOf_eq {ms ns : List Bool} (hlen : ms.length = ns.length) (h : valueOf ms = valueOf ns) : ms = ns := by
  induction ms generalizing ns with
  | nil => exact (List.length_eq_zero_iff.1 hlen.symm).symm
  | cons m ms ih =>
    cases ns with
    | nil => cases hlen
    | cons n ns =>
      have hrest : ms.length = ns.length := Nat.succ.inj hlen
      have hm := valueOf_lt ms
      have hn := valueOf_lt ns
      rw [valueOf_cons, valueOf_cons, hrest] at h
      rw [hrest] at hm
      cases m <;> cases n <;> simp only [Bool.toNat_true, Bool.toNat_false, Nat.mul_zero, Nat.mul_one, Nat.zero_add] at h
      · rw [ih hrest h]
      · omega
      · omega
      · rw [ih hrest (Nat.add_left_cancel h)]

/-- A field's marks are those that read as its value. -/
theorem eq_marksOf_iff {ms : List Bool} {k v : Nat} (hlen : ms.length = k) (hv : v < 2 ^ k) :
    ms = marksOf k v ↔ valueOf ms = v := by
  refine ⟨fun h => by rw [h, valueOf_marksOf_of_lt hv], fun h => eq_of_valueOf_eq (by simp [hlen]) ?_⟩
  rw [h, valueOf_marksOf_of_lt hv]

/-! ### The check (R111) -/

theorem checkOf_append (ms ns : List Bool) : checkOf (ms ++ ns) = ns.foldl checkStep (checkOf ms) := by
  rw [checkOf, List.foldl_append]
  rfl

theorem checkOf_append_singleton (ms : List Bool) (m : Bool) : checkOf (ms ++ [m]) =
    if m = (checkOf ms).getLsbD 3 then checkOf ms <<< 1 else (checkOf ms <<< 1) ^^^ 0b0011 := checkOf_append ms [m]

theorem checkStep_injective : ∀ (m : Bool) (r r' : BitVec 4), checkStep r m = checkStep r' m → r = r' := by decide

theorem checkStep_not_ne : ∀ (m : Bool) (r : BitVec 4), checkStep r (!m) ≠ checkStep r m := by decide

/-- The marks of a remainder take it to 0. -/
theorem foldl_checkStep_marksOf : ∀ r : BitVec 4, (marksOf 4 r.toNat).foldl checkStep r = 0 := by decide

theorem checkOf_append_check (ms : List Bool) : checkOf (ms ++ marksOf 4 (checkOf ms).toNat) = 0 := by
  rw [checkOf_append, foldl_checkStep_marksOf]

/-- Two remainders stay apart under the same marks. -/
theorem foldl_checkStep_injective (ms : List Bool) {r r' : BitVec 4} (h : ms.foldl checkStep r = ms.foldl checkStep r') :
    r = r' := by
  induction ms generalizing r r' with
  | nil => exact h
  | cons m ms ih => exact checkStep_injective m r r' (ih h)

/-- Any one mark changed changes the remainder. -/
theorem foldl_checkStep_flip {ms : List Bool} {i : Nat} (hi : i < ms.length) (r : BitVec 4) :
    (ms.set i (!ms.getD i false)).foldl checkStep r ≠ ms.foldl checkStep r := by
  induction ms generalizing i r with
  | nil => cases hi
  | cons m ms ih =>
    cases i with
    | zero => exact fun h => checkStep_not_ne m r (foldl_checkStep_injective ms h)
    | succ i => exact ih (Nat.lt_of_succ_lt_succ hi) (checkStep r m)

/-! ### The reading of an uplink (R113) -/

/-- The code of an answer's kind (chapter 12.1). -/
def kindCode : AnswerKind → Nat
  | .hello => 1
  | .status => 2
  | .ack => 3
  | .nak => 4
  | .result => 5

theorem answerKindOf_kindCode (k : AnswerKind) : answerKindOf (kindCode k) = some k := by cases k <;> rfl

theorem answerKindOf_eq_some_iff {n : Nat} {k : AnswerKind} : answerKindOf n = some k ↔ n = kindCode k := by
  refine ⟨fun h => ?_, fun h => h ▸ answerKindOf_kindCode k⟩
  unfold answerKindOf at h
  split at h <;> cases h <;> rfl

/-- Every code of three marks but 0, 6 and 7 names a kind. -/
theorem exists_kindCode {n : Nat} (hn : n < 8) (h : ¬ (n = 0 ∨ n = 6 ∨ n = 7)) : ∃ k, n = kindCode k := by
  have h15 : n = 1 ∨ n = 2 ∨ n = 3 ∨ n = 4 ∨ n = 5 := by omega
  rcases h15 with rfl | rfl | rfl | rfl | rfl
  · exact ⟨.hello, rfl⟩
  · exact ⟨.status, rfl⟩
  · exact ⟨.ack, rfl⟩
  · exact ⟨.nak, rfl⟩
  · exact ⟨.result, rfl⟩

theorem kindCode_names (k : AnswerKind) : ¬ (kindCode k = 0 ∨ kindCode k = 6 ∨ kindCode k = 7) := by cases k <;> decide

/-- The 18 marks of an uplink that its check covers. -/
def checkedMarks (ms : List Bool) : List Bool := (ms.drop 2).take 18

/-- 24 marks carry an answer for the sequence value sent: the four tests of CORRUPT passed, and the fields of R109. -/
structure UplinkCarries (seq : Bool) (ms : List Bool) (a : Answer) : Prop where
  preamble : ms.take 2 = [true, true]
  check : ms.drop 20 = marksOf 4 (checkOf (checkedMarks ms)).toNat
  echo : (checkedMarks ms).getLast? = some seq
  kind : valueOf ((checkedMarks ms).take 3) = kindCode a.kind
  band : a.band = valueOf ((ms.drop 5).take 4)
  inUse : ms[9]? = some a.inUse
  charging : ms[10]? = some a.charging
  alarm : a.alarm = valueOf ((ms.drop 11).take 3)
  payload : a.payload = valueOf ((ms.drop 14).take 5)

theorem length_checkedMarks {ms : List Bool} (h : ms.length = 24) : (checkedMarks ms).length = 18 := by
  simp [checkedMarks, h]

/-- A mark that is there reads alike with and without a default. -/
theorem getD_eq_iff {ms : List Bool} {i : Nat} (hi : i < ms.length) (b : Bool) : ms.getD i false = b ↔ ms[i]? = some b := by
  simp [List.getD_eq_getElem?_getD, hi]

theorem answerOfMarks_eq_some_iff {seq : Bool} {ms : List Bool} (h : ms.length = 24) {a : Answer} :
    answerOfMarks seq ms = some a ↔ UplinkCarries seq ms a := by
  have hlen := length_checkedMarks h
  have hcheck := eq_marksOf_iff (ms := ms.drop 20) (k := 4) (by simp [h]) (checkOf (checkedMarks ms)).isLt
  have hecho : (checkedMarks ms).getLast? = some seq ↔ (checkedMarks ms).getD 17 false = seq := by
    rw [List.getLast?_eq_getElem?, hlen, getD_eq_iff (by omega)]
  have hmark : ∀ i < 18, ∀ b, (checkedMarks ms).getD i false = b ↔ ms[i + 2]? = some b := fun i hi b => by
    rw [getD_eq_iff (by omega), checkedMarks, List.getElem?_take_of_lt hi, List.getElem?_drop, Nat.add_comm]
  have hfield : ∀ i n, i + n ≤ 18 → ((checkedMarks ms).drop i).take n = (ms.drop (i + 2)).take n := fun i n hin => by
    rw [checkedMarks, List.drop_take, List.drop_drop, List.take_take, Nat.min_eq_left (by omega), Nat.add_comm]
  unfold answerOfMarks
  simp only [show (ms.drop 2).take 18 = checkedMarks ms from rfl]
  rw [hfield 3 4 (by omega), hfield 9 3 (by omega), hfield 12 5 (by omega)]
  constructor
  · intro hread
    split at hread
    · cases hread
    · rename_i kind hkind
      split at hread
      · rename_i htests
        obtain ⟨hpreamble, hvalue, hseq⟩ := htests
        cases hread
        exact ⟨hpreamble, hcheck.2 hvalue, hecho.2 hseq, answerKindOf_eq_some_iff.1 hkind, rfl, (hmark 7 (by omega) _).1 rfl,
          (hmark 8 (by omega) _).1 rfl, rfl, rfl⟩
      · cases hread
  · rintro ⟨hpreamble, hvalue, hseq, hkind, hband, hinUse, hcharging, halarm, hpayload⟩
    rw [answerKindOf_eq_some_iff.2 hkind]
    simp only
    rw [if_pos ⟨hpreamble, hcheck.1 hvalue, hecho.1 hseq⟩, (hmark 7 (by omega) _).2 hinUse, (hmark 8 (by omega) _).2 hcharging,
      ← hband, ← halarm, ← hpayload]

/-! ### Its outcome -/

theorem classify_of_none {cmd : DownCmd} {seq : Bool} {ms : List Bool} (h : answerOfMarks seq ms = none) :
    classify cmd seq ms = (.corrupt, none) := by
  unfold classify
  rw [h]

theorem classify_of_some {cmd : DownCmd} {seq : Bool} {ms : List Bool} {a : Answer} (h : answerOfMarks seq ms = some a) :
    classify cmd seq ms = (if expects cmd a.kind then .valid else .unexpected, some a) := by
  unfold classify
  rw [h]
  simp only
  split <;> rfl

/-- The kinds a command expects, by their codes (R113). -/
def expectsCode (cmd : DownCmd) (code : Nat) : Bool :=
  match cmd with
  | .wake => code == 1
  | .keep | .query => code == 2
  | .beginTest | .doze | .aux _ => code == 3 || code == 4
  | .resultQuery => code == 5

theorem expectsCode_kindCode (cmd : DownCmd) (k : AnswerKind) : expectsCode cmd (kindCode k) = expects cmd k := by
  cases cmd <;> cases k <;> rfl

/-- Settles O24: marks that no test finds CORRUPT carry an answer, and only those. -/
theorem uplinkIsClassified : Obligations.UplinkIsClassified := by
  unfold Obligations.UplinkIsClassified
  intro cmd seq ms hlen checked kind corrupt expected
  refine ⟨fun hcorrupt => classify_of_none (Option.eq_none_iff_forall_ne_some.2 fun a ha => ?_), fun hsound => ?_⟩
  · obtain ⟨hpreamble, hcheck, hecho, hkind, -⟩ := (answerOfMarks_eq_some_iff hlen).1 ha
    have hcode : kind = kindCode a.kind := hkind
    rcases hcorrupt with h | h | h | h
    · exact h hpreamble
    · exact h hcheck
    · exact h hecho
    · rw [hcode] at h
      exact kindCode_names a.kind h
  · simp only [corrupt, not_or, not_not] at hsound
    obtain ⟨hpreamble, hcheck, hecho, hnames⟩ := hsound
    obtain ⟨k, hk⟩ := exists_kindCode (valueOf_take_lt 3 checked) (by simpa only [not_or] using hnames)
    have h9 : 9 < ms.length := by omega
    have h10 : 10 < ms.length := by omega
    have hread := (answerOfMarks_eq_some_iff (a := ⟨k, _, ms[9], ms[10], _, _⟩) hlen).2
      ⟨hpreamble, hcheck, hecho, hk, rfl, List.getElem?_eq_getElem h9, List.getElem?_eq_getElem h10, rfl, rfl⟩
    have hexpected : expected = expects cmd k := by
      rw [← expectsCode_kindCode, ← hk]
      rfl
    have hkind : kind = kindCode k := hk
    refine ⟨_, hexpected ▸ classify_of_some hread, ?_, rfl, List.getElem?_eq_getElem h9, List.getElem?_eq_getElem h10, rfl, rfl⟩
    rw [hkind]
    cases k <;> rfl

/-! ### Messages built and read back -/

theorem DownCmd.code_lt (cmd : DownCmd) : cmd.code < 16 := by
  cases cmd with
  | aux n => exact Nat.add_lt_add_left (Nat.lt_of_lt_of_le n.isLt (by decide : 4 ≤ 8)) 8
  | _ => decide

/-- The remainder of an uplink's marks after the preamble is 0 where its check holds. -/
theorem UplinkCarries.remainder {seq : Bool} {ms : List Bool} {a : Answer} (h : UplinkCarries seq ms a) :
    checkOf (ms.drop 2) = 0 := by
  have hsplit : ms.drop 2 = checkedMarks ms ++ ms.drop 20 := by
    have hdrop : ms.drop 20 = (ms.drop 2).drop 18 := by rw [List.drop_drop]
    rw [hdrop, checkedMarks, List.take_append_drop]
  rw [hsplit, h.check, checkOf_append_check]

/-- The marks of an answer's fields, which echo a sequence value (R109, chapter 12.1). -/
def uplinkFields (a : Answer) (seq : Bool) : List Bool :=
  marksOf 3 (kindCode a.kind) ++ marksOf 4 a.band ++ [a.inUse, a.charging] ++ marksOf 3 a.alarm ++ marksOf 5 a.payload ++ [seq]

/-- The 24 marks of an answer: the preamble, its fields, their check. -/
def uplinkMarks (a : Answer) (seq : Bool) : List Bool :=
  [true, true] ++ uplinkFields a seq ++ marksOf 4 (checkOf (uplinkFields a seq)).toNat

theorem uplinkCarries_uplinkMarks {a : Answer} (hband : a.band < 16) (halarm : a.alarm < 8) (hpayload : a.payload < 32)
    (seq : Bool) : UplinkCarries seq (uplinkMarks a seq) a where
  preamble := rfl
  check := rfl
  echo := rfl
  kind := valueOf_marksOf_of_lt (k := 3) (by cases a.kind <;> decide)
  band := (valueOf_marksOf_of_lt (k := 4) hband).symm
  inUse := rfl
  charging := rfl
  alarm := (valueOf_marksOf_of_lt (k := 3) halarm).symm
  payload := (valueOf_marksOf_of_lt (k := 5) hpayload).symm

/-- One mark changed, in the preamble or after it, is found (R111, R113). -/
theorem UplinkCarries.not_flipped {seq : Bool} {ms : List Bool} {a b : Answer} (h : UplinkCarries seq ms a) {i : Nat}
    (hi : i < ms.length) : ¬ UplinkCarries seq (ms.set i (!ms.getD i false)) b := fun hflip => by
  rcases Nat.lt_or_ge i 2 with h2 | h2
  · have hmark : ms[i]? = some true := by
      rw [← List.getElem?_take_of_lt h2, h.preamble]
      interval_cases i <;> rfl
    have hflipped : (ms.set i (!ms.getD i false))[i]? = some true := by
      rw [← List.getElem?_take_of_lt h2, hflip.preamble]
      interval_cases i <;> rfl
    rw [List.getElem?_set_self hi, (getD_eq_iff hi true).2 hmark] at hflipped
    cases hflipped
  · have hdrop : (ms.set i (!ms.getD i false)).drop 2 = (ms.drop 2).set (i - 2) (!(ms.drop 2).getD (i - 2) false) := by
      rw [List.drop_set, if_neg (by omega), List.getD_eq_getElem?_getD (l := ms.drop 2), List.getElem?_drop,
        Nat.add_sub_cancel' h2, List.getD_eq_getElem?_getD]
    have hzero := hflip.remainder
    rw [hdrop] at hzero
    exact foldl_checkStep_flip (by rw [List.length_drop]; omega) 0 (hzero.trans h.remainder.symm)

/-- Settles O52: the fields by their marks, the check by its steps, the uplink by what its marks carry. -/
theorem lineMessagesRoundTrip : Obligations.LineMessagesRoundTrip := by
  unfold Obligations.LineMessagesRoundTrip
  refine ⟨⟨rfl, checkOf_append_singleton⟩, ⟨rfl, valueOf_append_singleton⟩, fun v => ⟨rfl, fun k => marksOf_succ k v⟩,
    fun cmd arg seq harg => ?_, checkOf_append_check, fun a seq hband halarm hpayload => ?_⟩
  · exact ⟨rfl, rfl, valueOf_marksOf_of_lt (k := 4) cmd.code_lt, valueOf_marksOf_of_lt (k := 4) harg, rfl,
      checkOf_append_check (marksOf 4 cmd.code ++ marksOf 4 arg ++ [seq]), rfl⟩
  · intro code fields ms
    have hlen : ms.length = 24 := rfl
    have hcarries : UplinkCarries seq ms a := uplinkCarries_uplinkMarks hband halarm hpayload seq
    have hunread : ∀ {seq' : Bool} {ns : List Bool}, ns.length = 24 → (∀ b, ¬ UplinkCarries seq' ns b) →
        answerOfMarks seq' ns = none := fun hns hnone =>
      Option.eq_none_iff_forall_ne_some.2 fun b hb => hnone b ((answerOfMarks_eq_some_iff hns).1 hb)
    refine ⟨hlen, (answerOfMarks_eq_some_iff hlen).2 hcarries, hunread hlen fun b hb => ?_, fun i hi => ?_⟩
    · have hecho := hcarries.echo.symm.trans hb.echo
      simp at hecho
    · exact hunread (by rw [List.length_set, hlen]) fun b => hcarries.not_flipped (by omega)

end Sys2Proof.Machine
end

/-! ## The end of an uplink: no usable answer, and a valid answer that keeps its channel FED (R112 to R120, R137) -/

section
namespace Sys2Proof.Machine

/-! ### The uplink end, whatever its outcome -/

/-- A channel whose exchange has ended (R115): the end may fall inside the current millisecond (R79). -/
def endedChannel (inside : Bool) (ch : Channel) : Channel :=
  { ch with exchange := none, exchangeMs := ch.exchangeMs || inside }

theorem uplinkEnd_of_due {c : Chan} {average : Nat} {s : State} {e : Exchange} (he : (chanAt s c).exchange = some e)
    (hp : e.phase = .uplink) (ht : timely (exchangeDeadline e) s = true) {o : ExchangeOutcome} {answer : Option Answer}
    (hc : classify e.cmd e.seq (e.marks ++ [decide (e.baseline + 10 ≤ average)]) = (o, answer)) :
    uplinkEnd c average s =
      exchangeOutcome c { e with marks := e.marks ++ [decide (e.baseline + 10 ≤ average)] } o answer
        (setChan c (endedChannel (decide (us s.ms < exchangeDeadline e)) (chanAt s c)) s) := by
  have hmark : loadMark e.baseline average = decide (e.baseline + 10 ≤ average) := rfl
  have hd : exchangeDeadline { e with marks := e.marks ++ [decide (e.baseline + 10 ≤ average)] } = exchangeDeadline e := rfl
  have hdue : (decide (e.phase = .uplink) && timely (exchangeDeadline e) s) = true := by simp [hp, ht]
  simp only [uplinkEnd, he, hdue, if_true, hmark, hc, hd]
  rfl

/-! ### A miss (R115 to R117) -/

/-- The state after a miss of a channel that stands at `y`, by its state (R91, R92). -/
def missed (c : Chan) (s : State) (y : Channel) : State :=
  match y.life with
  | .waking =>
    let u := setChan c { y with attempts := y.attempts + 1 } s
    if y.cfg.wakeLimit ≤ y.attempts + 1 then
      enterDark c .wakeFailed (some (.wakeResult false (y.attempts + 1) 0)) .noAnswer u
    else u
  | .fed =>
    let u := setChan c { y with misses := y.misses + 1 } s
    if 3 ≤ y.misses + 1 then
      enterDark c .silent (some (.lost .silent (y.status.map StatusRecord.lastAnswer))) .noAnswer u
    else u
  | .resuming =>
    let u := setChan c { y with misses := y.misses + 1 } s
    if 3 ≤ y.misses + 1 then enterDark c .silent none .noAnswer u else u
  | .dark | .testing | .faulted | .retired => setChan c y s

theorem missAction_setChan (c : Chan) (y : Channel) (s : State) : missAction c (setChan c y s) = missed c s y := by
  have hy : chanAt (setChan c y s) c = y := chanAt_setChan_self ..
  cases hl : y.life with
  | waking => simp only [missAction, missed, hy, hl, countAttempt_eq, setChan_setChan]
  | fed => simp only [missAction, missed, hy, hl, countMiss_eq, setChan_setChan, if_true]
  | resuming => simp only [missAction, missed, hy, hl, countMiss_eq, setChan_setChan, reduceCtorEq, if_false]
  | dark | testing | faulted | retired => simp only [missAction, missed, hy, hl]

theorem exchangeOutcome_unexpected (c : Chan) (e : Exchange) (a : Answer) (y : Channel) (s : State) :
    exchangeOutcome c e .unexpected (some a) (setChan c y s) =
      reportChange c a s.frame y.status (missed c s { y with status := some (answerRecord s.frame a y.status) }) := by
  simp only [exchangeOutcome, refreshStatus, modChan, refreshed_eq, chanAt_setChan_self, setChan_setChan, missAction_setChan,
    setChan_frame]

theorem reportChange_of_due {a : Answer} {old : Option StatusRecord} (h : changeIsDue a old = true) (c : Chan) (frame : Nat)
    (s : State) : reportChange c a frame old s = reportChan c (.statusChange (answerFields a old) (priorValues old)) s := by
  rw [reportChange, changeDue_eq, if_pos h, refreshed_eq, priorOf_eq]
  rfl

theorem reportChange_of_not_due {a : Answer} {old : Option StatusRecord} (h : ¬ changeIsDue a old = true) (c : Chan)
    (frame : Nat) (s : State) : reportChange c a frame old s = s := by
  rw [reportChange, changeDue_eq, if_neg h]

/-- Settles O25: the exchange ends, and the miss counts; an unexpected answer refreshes the record before it. -/
theorem uplinkMissCounts : Obligations.UplinkMissCounts := by
  unfold Obligations.UplinkMissCounts
  intro c average s e hr he hp ht x marks ended miss
  have hexec : ∀ {o answer}, classify e.cmd e.seq marks = (o, answer) → exec (.uplinkEnd c average) s =
      .next (exchangeOutcome c { e with marks := marks } o answer (setChan c ended s)) := fun hc =>
    (whenLive_of_live hr _).trans (congrArg _ (uplinkEnd_of_due he hp ht hc))
  refine ⟨fun hc => ?_, fun a hc => ?_⟩
  · rw [hexec hc]
    exact congrArg _ (missAction_setChan c ended s)
  · intro fields t
    rw [hexec hc, exchangeOutcome_unexpected]
    exact ⟨fun hdue => congrArg _ (reportChange_of_due hdue ..), fun hdue => congrArg _ (reportChange_of_not_due hdue ..)⟩

/-! ### A valid answer in FED (R119, R137) -/

/-- The records of a valid answer that keeps its channel FED, before the STATUS_CHANGE (R119, R137). -/
def fedRecords (x : Channel) (e : Exchange) (a : Answer) : List ReportBody :=
  let m : Mailbox := { cmd := e.cmd, arg := e.arg }
  let ackOrNak : MailOutcome := if a.kind = .ack then .acked else .naked
  match e.cmd with
  | .wake | .keep | .resultQuery => []
  | .query => [.mailboxDone .answered m 0 (some { answerFields a x.status with hours := some a.payload })]
  | .doze | .aux _ => [.mailboxDone ackOrNak m a.payload none]
  | .beginTest =>
    match x.test with
    | some k => [testEnding .refused k a.payload]
    | none => []

/-- The commands that an exchange carries from the mailbox (R106). -/
def fromMailbox : DownCmd → Bool
  | .wake | .keep | .resultQuery => false
  | .query | .doze | .aux _ | .beginTest => true

/-- A channel whose valid answer has been settled in FED: no misses, and the mailbox emptied of the command sent, a refused
test with it (R119, R137). -/
def fedSettled (cmd : DownCmd) (y : Channel) : Channel :=
  { y with
    misses := 0
    mailbox := if fromMailbox cmd then none else y.mailbox
    test := if cmd = .beginTest then none else y.test }

theorem settleMailbox_eq (c : Chan) (o : MailOutcome) (m : Mailbox) (n : Nat) (f : Option StatusFields) (s : State) :
    settleMailbox c o m n f s = { setChan c { chanAt s c with mailbox := none } s with
      service := withRecords s.frame s.slotIndex c [.mailboxDone o m n f] s.service } := rfl

theorem refuseTest_eq (c : Chan) (a : Answer) (s : State) : refuseTest c a s =
    { setChan c { chanAt s c with test := none, mailbox := none } s with
      service := withRecords s.frame s.slotIndex c
        (match (chanAt s c).test with
          | some k => [testEnding .refused k a.payload]
          | none => []) s.service } := by
  unfold refuseTest
  cases hk : (chanAt s c).test with
  | some k => rfl
  | none =>
    simp only [withRecords_nil, ← hk]
    rfl

theorem fedAnswer_setChan {e : Exchange} {a : Answer} (hstays : ¬ ((e.cmd = .doze ∨ e.cmd = .beginTest) ∧ a.kind = .ack))
    (c : Chan) (y : Channel) (s : State) : fedAnswer c e a (setChan c y s) =
      { setChan c (fedSettled e.cmd y) s with service := withRecords s.frame s.slotIndex c (fedRecords y e a) s.service } := by
  have hu : modChan c (fun ch => { ch with misses := 0 }) (setChan c y s) = setChan c { y with misses := 0 } s := by
    simp only [modChan, chanAt_setChan_self, setChan_setChan]
  unfold fedAnswer fedRecords
  simp only [hu]
  cases hcmd : e.cmd with
  | keep | wake | resultQuery => rfl
  | query | aux n =>
    simp only [settleMailbox_eq, chanAt_setChan_self, setChan_setChan]
    rfl
  | doze =>
    have hnak : a.kind ≠ .ack := fun h => hstays ⟨.inl hcmd, h⟩
    simp only [if_neg hnak, settleMailbox_eq, chanAt_setChan_self, setChan_setChan]
    rfl
  | beginTest =>
    have hnak : a.kind ≠ .ack := fun h => hstays ⟨.inr hcmd, h⟩
    simp only [if_neg hnak, refuseTest_eq, chanAt_setChan_self, setChan_setChan]
    rfl

theorem validAction_of_fed {y : Channel} (h : y.life = .fed) (c : Chan) (e : Exchange) (a : Answer) (s : State) :
    validAction c e a (setChan c y s) = fedAnswer c e a (setChan c y s) := by
  rw [validAction, chanAt_setChan_self, h]

/-- Settles O26: the answer refreshes the channel, its command is settled in FED, the change comes last. -/
theorem validAnswerInFed : Obligations.ValidAnswerInFed := by
  unfold Obligations.ValidAnswerInFed
  intro c average s e a hr he hp ht hl hv hstays x m ackOrNak own emptied change
  have hfed := fedAnswer_setChan (e := { e with marks := e.marks ++ [decide (e.baseline + 10 ≤ average)] }) (a := a) hstays c
    (answeredChannel s.frame a (decide (us s.ms < exchangeDeadline e)) x) s
  have hexec : exec (.uplinkEnd c average) s = .next _ :=
    (whenLive_of_live hr _).trans (congrArg _ (uplinkEnd_of_valid he hp ht hv))
  rw [hexec, validAction_of_fed (y := answeredChannel ..) hl, hfed, reportChange_eq, withRecords_append]
  rfl

end Sys2Proof.Machine
end

/-! ## Looks of the probe engine and requests (R121, R123 to R125)

`Serviceable s r`: a look that comes to the entry `r` starts it. Every queue begins with entries that are not, so one lemma
about those, `examine_passed`, says what a look does. -/

section
namespace Sys2Proof.Machine

/-! ### The entries that a look passes by -/

/-- The channel of an entry is DARK, so the entry stands (R124). -/
def isLive (s : State) (r : ProbeRequest) : Bool := (chanAt s r.chan).life = .dark

/-- A PAIR entry that stands, and whose partner is powered: it keeps its place (R124). -/
def waitsForPartner (s : State) (r : ProbeRequest) : Bool :=
  isLive s r && r.pair && powered (chanAt s (partnerOf r.chan)).life

/-- A look that comes to this entry starts it (R124). -/
def Serviceable (s : State) (r : ProbeRequest) : Prop := isLive s r = true ∧ waitsForPartner s r = false

theorem not_serviceable_iff (s : State) (r : ProbeRequest) :
    ¬ Serviceable s r ↔ isLive s r = false ∨ waitsForPartner s r = true := by
  rw [Serviceable, not_and_or, Bool.not_eq_true, Bool.not_eq_false]

/-- The entries are cancelled, the oldest first (R124, R130). -/
def cancelAll (rs : List ProbeRequest) (s : State) : State := rs.foldl (fun u r => reportProbe r .cancelled none u) s

theorem cancelAll_frame (rs : List ProbeRequest) (s : State) :
    cancelAll rs s = { s with service := (cancelAll rs s).service } := by
  induction rs generalizing s with
  | nil => rfl
  | cons r rest ih => exact ih (reportProbe r .cancelled none s)

/-- What a look asks of an entry is told by the channels. -/
theorem isLive_congr {s t : State} (h : t.channels = s.channels) : isLive t = isLive s := by
  funext r
  rw [isLive, isLive, chanAt_congr h]

theorem waitsForPartner_congr {s t : State} (h : t.channels = s.channels) : waitsForPartner t = waitsForPartner s := by
  funext r
  rw [waitsForPartner, waitsForPartner, isLive_congr h, chanAt_congr h]

/-! ### Examining the queue -/

theorem examine_of_not_live {s : State} {r : ProbeRequest} (h : isLive s r = false) (kept rest : List ProbeRequest) :
    examine kept (r :: rest) s = examine kept rest (reportProbe r .cancelled none s) :=
  if_pos (of_decide_eq_false h)

theorem examine_of_waits {s : State} {r : ProbeRequest} (h : waitsForPartner s r = true) (kept rest : List ProbeRequest) :
    examine kept (r :: rest) s = examine (kept ++ [r]) rest s := by
  obtain ⟨hstands, hpowered⟩ := Bool.and_eq_true_iff.1 h
  obtain ⟨hlive, hpair⟩ := Bool.and_eq_true_iff.1 hstands
  rw [examine, if_neg (not_not.2 (of_decide_eq_true hlive)), if_pos (by simp [hpair, hpowered])]

theorem examine_of_serviceable {s : State} {r : ProbeRequest} (h : Serviceable s r) (kept rest : List ProbeRequest) :
    examine kept (r :: rest) s = startProbe r { s with probeQueue := kept ++ rest, waiting := false } := by
  obtain ⟨hlive, hwaits⟩ := h
  have hpartner : ¬ (r.pair && powered (chanAt s (partnerOf r.chan)).life) = true := by
    simpa [waitsForPartner, hlive] using hwaits
  rw [examine, if_neg (not_not.2 (of_decide_eq_true hlive)), if_neg hpartner]

/-- Entries that are not serviceable are cancelled or keep their places, each in its turn. -/
theorem examine_passed {s : State} {before : List ProbeRequest} (h : ∀ b ∈ before, ¬ Serviceable s b)
    (kept rest : List ProbeRequest) : examine kept (before ++ rest) s =
      examine (kept ++ before.filter (waitsForPartner s)) rest (cancelAll (before.filter fun b => !isLive s b) s) := by
  induction before generalizing kept s with
  | nil => simp [cancelAll]
  | cons b before ih =>
    obtain ⟨hb, hbefore⟩ := List.forall_mem_cons.1 h
    rcases (not_serviceable_iff s b).1 hb with hgone | hwaits
    · have hsame := reportProbe_channels b .cancelled none s
      have hrest := ih (s := reportProbe b .cancelled none s) (fun c hc => by
        rw [Serviceable, isLive_congr hsame, waitsForPartner_congr hsame]
        exact hbefore c hc) kept
      rw [isLive_congr hsame, waitsForPartner_congr hsame] at hrest
      rw [List.cons_append, examine_of_not_live hgone, hrest, List.filter_cons_of_neg (by simp [waitsForPartner, hgone]),
        List.filter_cons_of_pos (by simp [hgone])]
      rfl
    · have hlive : isLive s b = true := (Bool.and_eq_true_iff.1 (Bool.and_eq_true_iff.1 hwaits).1).1
      rw [List.cons_append, examine_of_waits hwaits, ih hbefore, List.filter_cons_of_pos hwaits,
        List.filter_cons_of_neg (by simp [hlive]), List.append_assoc, List.singleton_append]

/-! ### Looks -/

theorem look_of_busy {s : State} (h : s.probe ≠ none) : look s = s :=
  if_pos (Option.isSome_iff_ne_none.2 h)

theorem look_of_empty {s : State} (hp : s.probe = none) (hq : s.probeQueue = []) : look s = { s with waiting := false } := by
  simp [look, probeBusy, hp, hq]

theorem look_of_idle {s : State} (hp : s.probe = none) (hq : s.probeQueue ≠ []) : look s = examine [] s.probeQueue s := by
  simp [look, probeBusy, hp, hq]

/-- A look with a serviceable entry starts the oldest one (R124, R125). -/
theorem look_of_serviceable {s : State} {before rest : List ProbeRequest} {r : ProbeRequest} (hp : s.probe = none)
    (hq : s.probeQueue = before ++ r :: rest) (hbefore : ∀ b ∈ before, ¬ Serviceable s b) (hr : Serviceable s r) :
    look s = { cancelAll (before.filter fun b => !isLive s b) s with
      probeQueue := before.filter (waitsForPartner s) ++ rest
      waiting := false
      probe := some { chan := r.chan, partner := if r.pair then some (partnerOf r.chan) else none, start := s.ms,
                      stop := s.ms + probeTime r.pair } } := by
  have hframe := cancelAll_frame (before.filter fun b => !isLive s b) s
  have hsame : (cancelAll (before.filter fun b => !isLive s b) s).channels = s.channels := by rw [hframe]
  have hms : s.ms = (cancelAll (before.filter fun b => !isLive s b) s).ms := by rw [hframe]
  rw [hms, look_of_idle hp (by simp [hq]), hq, examine_passed hbefore, examine_of_serviceable]
  · rfl
  · rwa [Serviceable, isLive_congr hsame, waitsForPartner_congr hsame]

/-- A look with no serviceable entry starts nothing (R124). -/
theorem look_of_passed {s : State} (hp : s.probe = none) (hq : s.probeQueue ≠ [])
    (h : ∀ b ∈ s.probeQueue, ¬ Serviceable s b) : look s =
      { cancelAll (s.probeQueue.filter fun b => !isLive s b) s with
        probeQueue := s.probeQueue.filter (waitsForPartner s), waiting := true } := by
  have hall := examine_passed h [] []
  rw [List.append_nil] at hall
  rw [look_of_idle hp hq, hall]
  rfl

/-! ### Requests -/

theorem requestLine_of_mem {c : Chan} {s : State} (h : { chan := c, pair := false } ∈ s.probeQueue) : requestLine c s = s :=
  if_pos (List.contains_iff_mem.2 h)

theorem requestLine_of_room {c : Chan} {s : State} (h : { chan := c, pair := false } ∉ s.probeQueue)
    (hlen : s.probeQueue.length < 32) :
    requestLine c s = look { s with probeQueue := s.probeQueue ++ [{ chan := c, pair := false }] } := by
  rw [requestLine, if_neg (mt List.contains_iff_mem.1 h), if_pos (show _ < probeCapacity from hlen), appendProbe]

theorem requestLine_of_full {c : Chan} {s : State} (h : { chan := c, pair := false } ∉ s.probeQueue)
    (hlen : 32 ≤ s.probeQueue.length) :
    requestLine c s = reportProbe { chan := c, pair := false } .notQueued none s := by
  rw [requestLine, if_neg (mt List.contains_iff_mem.1 h), if_neg (show ¬ _ < probeCapacity from Nat.not_lt.2 hlen)]

/-! ### Partners and FEED outputs -/

theorem partnerOf_even {k : Nat} (h : k < 12) : partnerOf ⟨2 * k, by omega⟩ = ⟨2 * k + 1, by omega⟩ := by
  have heven : 2 * k % 2 = 0 := by omega
  have hmod : (2 * k + 1) % 24 = 2 * k + 1 := by omega
  simp only [partnerOf, heven, if_true, hmod]

theorem partnerOf_odd {k : Nat} (h : k < 12) : partnerOf ⟨2 * k + 1, by omega⟩ = ⟨2 * k, by omega⟩ := by
  have hodd : ¬ (2 * k + 1) % 2 = 0 := by omega
  simp only [partnerOf, hodd, if_false, Nat.add_sub_cancel]

theorem feedOutput_of_probed {s : State} {p : Probe} (h : s.probe = some p) (t : Nat) : feedOutput t s p.chan = .bias := by
  simp only [feedOutput, h, if_true]

theorem feedOutput_of_partner {s : State} {p : Probe} (h : s.probe = some p) {d : Chan} (hd : p.partner = some d)
    (hne : d ≠ p.chan) (t : Nat) : feedOutput t s d = .sense := by
  simp only [feedOutput, h, if_neg (Ne.symm hne), hd, if_true]

/-- Settles O8: partners, FEED outputs, a look by the first serviceable entry, and a LINE request by its three cases. -/
theorem lookServesOldest : Obligations.LookServesOldest := by
  unfold Obligations.LookServesOldest
  refine ⟨fun k h => ⟨partnerOf_even h, partnerOf_odd h⟩,
    fun s p t h => ⟨feedOutput_of_probed h t, fun d hd hne => feedOutput_of_partner h hd hne t⟩, fun s => ?_, fun c s =>
      ⟨requestLine_of_mem, requestLine_of_room, requestLine_of_full⟩⟩
  refine ⟨look_of_busy, look_of_empty, fun before r rest hp hq hbefore hlive hwaits => ?_, fun hp hq hpassed => ?_⟩
  · exact look_of_serviceable hp hq (fun b hb => (not_serviceable_iff s b).2 (hbefore b hb)) ⟨hlive, hwaits⟩
  · exact look_of_passed hp hq fun b hb => (not_serviceable_iff s b).2 (hpassed b hb)

end Sys2Proof.Machine
end

/-! ## PROBE and the ends of probes (R122, R123, R125 to R127) -/

section
namespace Sys2Proof.Machine

/-! ### PROBE -/

theorem exec_probe {p : Port} {arg : Word} {s : State} (h : commandDue p .probe [arg] s = true) :
    exec (.probe p arg) s = .next (doProbe p arg (commandTaken p s)) :=
  congrArg Host.Outcome.next (atPort_of_due h (doProbe p arg))

/-- The reply of an accepted PROBE: the channel's state and the occupancy as they are when it is left. -/
def probeAnswered (c : Chan) (s : State) : State :=
  reply .service 0x10 .done [wordOf [place 8 24 (chanAt s c).life.code, place 8 0 s.probeQueue.length]] s

/-- A PROBE whose arguments are in range: the state first, then the queue (R122, R123). -/
theorem doProbe_of_chan {arg : Word} {c : Chan} (hc : (arg.extractLsb' 24 8).toNat = c.val) (hk : bits 23 16 arg ≤ 1)
    (s : State) : doProbe .service arg s =
      if (chanAt s c).life = .dark ∧ (bits 23 16 arg = 1 → powered (chanAt s (partnerOf c)).life = false) then
        if { chan := c, pair := decide (bits 23 16 arg = 1) } ∈ s.probeQueue then probeAnswered c s
        else if s.probeQueue.length < 32 then
          probeAnswered c (look { s with
            probeQueue := s.probeQueue ++ [{ chan := c, pair := decide (bits 23 16 arg = 1) }] })
        else reply .service 0x10 .queueFull [] s
      else reply .service 0x10 .wrongState [] s := by
  have hallowed : ((decide ((chanAt s c).life ≠ .dark) ||
      (decide (bits 23 16 arg = 1) && powered (chanAt s (partnerOf c)).life)) = true) ↔
        ¬ ((chanAt s c).life = .dark ∧ (bits 23 16 arg = 1 → powered (chanAt s (partnerOf c)).life = false)) := by
    rw [not_and_or]
    simp
  rw [doProbe, channelCommand_service rfl hc]
  simp only [if_neg (Nat.not_lt.2 hk), hallowed, ite_not, List.contains_iff_mem]
  rfl

/-- Settles O46: the arguments, then the channel and its partner, then the queue. -/
theorem probeCommandArrives : Obligations.ProbeCommandArrives := by
  unfold Obligations.ProbeCommandArrives
  intro arg s h u k
  rw [exec_probe h]
  refine ⟨fun c hc hk => ?_, fun hbad => congrArg Host.Outcome.next ?_⟩
  · intro r ok answer
    have hprobe := doProbe_of_chan hc hk u
    exact ⟨fun hok => congrArg Host.Outcome.next (hprobe.trans (if_neg hok)),
      fun hok hmem => congrArg Host.Outcome.next (hprobe.trans ((if_pos hok).trans (if_pos hmem))),
      fun hok hmem hlen =>
        congrArg Host.Outcome.next (hprobe.trans ((if_pos hok).trans ((if_neg hmem).trans (if_pos hlen)))),
      fun hok hmem hlen => congrArg Host.Outcome.next
        (hprobe.trans ((if_pos hok).trans ((if_neg hmem).trans (if_neg (Nat.not_lt.2 hlen)))))⟩
  · by_cases hn : 24 ≤ (arg.extractLsb' 24 8).toNat
    · exact channelCommand_of_none rfl hn ..
    · rw [doProbe, channelCommand_service (c := ⟨_, Nat.lt_of_not_le hn⟩) rfl rfl]
      exact if_pos (hbad.resolve_left hn)

/-! ### The end of a LINE probe (R126) -/

theorem lineOutcome_short {v : Nat} (h : v ≤ 49) : lineOutcome v = .short := if_pos h

theorem lineOutcome_signature {v : Nat} (h1 : 350 ≤ v) (h2 : v ≤ 650) : lineOutcome v = .signature := by
  rw [lineOutcome, if_neg (by omega), if_pos ⟨h1, h2⟩]

theorem lineOutcome_openLine {v : Nat} (h : 901 ≤ v) : lineOutcome v = .openLine := by
  rw [lineOutcome, if_neg (by omega), if_neg (by omega), if_pos h]

theorem lineOutcome_foreign {v : Nat} (h : 50 ≤ v ∧ v ≤ 349 ∨ 651 ≤ v ∧ v ≤ 900) : lineOutcome v = .foreign := by
  rw [lineOutcome, if_neg (by omega), if_neg (by omega), if_neg (by omega)]

/-- The probe is over and its PROBE_RESULT is entered (R125, R130). -/
def probeOver (c : Chan) (pair : Bool) (o : ProbeOutcome) (reading : Nat) (s : State) : State :=
  reportProbe { chan := c, pair := pair } o (some reading) { s with probe := none }

@[simp] theorem chanAt_probeOver (c : Chan) (pair : Bool) (o : ProbeOutcome) (reading : Nat) (s : State) (d : Chan) :
    chanAt (probeOver c pair o reading s) d = chanAt s d := chanAt_reportChan ..

theorem probeEndLine_of_due {s : State} {p : Probe} (hp : s.probe = some p) (hnone : p.partner = none)
    (ht : timely (us p.stop) s = true) (hl : (chanAt s p.chan).life = .dark) (reading : Nat) :
    probeEndLine reading s = look (actLine p.chan (lineOutcome (min reading 1200))
      (probeOver p.chan false (lineOutcome (min reading 1200)) (min reading 1200) s)) := by
  have hdue : probeEndDue p false s = true := by simp [probeEndDue, hnone, ht]
  have hrequest : p.request = { chan := p.chan, pair := false } := by simp [Probe.request, hnone]
  simp only [probeEndLine, hp, hdue, if_true, hrequest]
  exact congrArg look (if_pos hl)

theorem actLine_signature (c : Chan) (s : State) : actLine c .signature s =
    setChan c (if (chanAt s c).cfg.autoWake then wakeChannel { chanAt s c with line := .signature }
      else { chanAt s c with line := .signature }) s := rfl

/-! ### The end of a PAIR probe (R127) -/

theorem partnerOf_ne : ∀ c : Chan, partnerOf c ≠ c := by decide

theorem partnerFaults_eq_false_iff (l : Life) : partnerFaults l = false ↔ l = .faulted ∨ l = .retired := by
  cases l <;> decide

theorem probeEndPair_of_due {s : State} {p : Probe} (hp : s.probe = some p) (hsome : p.partner = some (partnerOf p.chan))
    (ht : timely (us p.stop) s = true) (hl : (chanAt s p.chan).life = .dark) (reading : Nat) :
    probeEndPair reading s = look (actPair p.chan (partnerOf p.chan) (decide (10 < reading))
      (probeOver p.chan true (if 10 < reading then .crossed else .clear) reading s)) := by
  have hdue : probeEndDue p true s = true := by simp [probeEndDue, hsome, ht]
  have hrequest : p.request = { chan := p.chan, pair := true } := by simp [Probe.request, hsome]
  simp only [probeEndPair, hp, hdue, if_true, hrequest, decide_eq_true_eq]
  exact congrArg look (if_pos hl)

/-- A channel faulted by CROSSED leaves its partner's record. -/
theorem chanAt_crossChannel_partner (c : Chan) (s : State) :
    chanAt (crossChannel c (partnerOf c) s) (partnerOf c) = chanAt s (partnerOf c) := by
  rw [crossChannel, chanAt_enterFaulted, if_neg (partnerOf_ne c), chanAt_modChan_other (partnerOf_ne c)]

theorem actPair_of_crossed (c : Chan) (s : State) : actPair c (partnerOf c) true s =
    if partnerFaults (chanAt s (partnerOf c)).life then crossChannel (partnerOf c) c (crossChannel c (partnerOf c) s)
    else crossChannel c (partnerOf c) s := by
  rw [actPair, if_pos rfl]
  simp only [chanAt_crossChannel_partner]

/-- Settles O28: the outcome by the reading's band or limit, then what it does to the channel and its partner. -/
theorem probeEndsAct : Obligations.ProbeEndsAct := by
  unfold Obligations.ProbeEndsAct
  intro s p hr hp ht hl c x
  refine ⟨fun reading hnone => ?_, fun reading hsome => ?_⟩
  · intro v u
    have hexec : exec (.probeEndLine reading) s =
        .next (look (actLine c (lineOutcome v) (probeOver c false (lineOutcome v) v s))) :=
      (whenLive_of_live hr _).trans (congrArg _ (probeEndLine_of_due hp hnone ht hl reading))
    rw [hexec]
    refine ⟨fun hv => ?_, fun h1 h2 hauto => ?_, fun h1 h2 hauto => ?_, fun hv => ?_, fun hv => ?_⟩
    · rw [lineOutcome_short hv]
      rfl
    · rw [lineOutcome_signature h1 h2, actLine_signature, chanAt_probeOver, hauto]
      rfl
    · rw [lineOutcome_signature h1 h2, actLine_signature, chanAt_probeOver, hauto]
      rfl
    · rw [lineOutcome_openLine hv]
      rfl
    · rw [lineOutcome_foreign hv]
      rfl
  · intro d u crossed
    have hexec : exec (.probeEndPair reading) s = .next (look (actPair c d (decide (10 < reading.val))
        (probeOver c true (if 10 < reading.val then .crossed else .clear) reading.val s))) :=
      (whenLive_of_live hr _).trans (congrArg _ (probeEndPair_of_due hp hsome ht hl reading.val))
    rw [hexec]
    refine ⟨fun hle => ?_, fun hlt hstays => ?_, fun hlt hfaulted hretired => ?_⟩
    · rw [decide_eq_false (Nat.not_lt.2 hle), if_neg (Nat.not_lt.2 hle)]
      rfl
    · have hkept := (partnerFaults_eq_false_iff _).2 hstays
      rw [decide_eq_true hlt, if_pos hlt, actPair_of_crossed, chanAt_probeOver, if_neg (ne_true_of_eq_false hkept)]
      rfl
    · have hfaults : partnerFaults (chanAt s d).life = true :=
        Bool.of_not_eq_false fun h => ((partnerFaults_eq_false_iff _).1 h).elim hfaulted hretired
      rw [decide_eq_true hlt, if_pos hlt, actPair_of_crossed, chanAt_probeOver, if_pos hfaults]
      rfl

end Sys2Proof.Machine
end

/-! ## What keeps the probe engine sound (R121, R123, R125, R129)

`ProbesKept s t`: the probe engine is sound in `t` where it was in `s`. A step that leaves the queue and the probe in progress
keeps it if every DARK channel stays DARK; a look keeps it, since what it starts is DARK. -/

section
namespace Sys2Proof.Machine

/-- The probe queue and the probe in progress. -/
def probesOf (s : State) : List ProbeRequest × Option Probe := (s.probeQueue, s.probe)

/-- The queue holds each request once, and at most 32 (R121, R123). -/
structure QueueSound (q : List ProbeRequest) : Prop where
  length : q.length ≤ 32
  nodup : q.Nodup

theorem QueueSound.sublist {q q' : List ProbeRequest} (h : QueueSound q) (hs : q'.Sublist q) : QueueSound q' :=
  ⟨hs.length_le.trans h.length, h.nodup.sublist hs⟩

theorem QueueSound.append {q : List ProbeRequest} (h : QueueSound q) {r : ProbeRequest} (hr : r ∉ q) (hlen : q.length < 32) :
    QueueSound (q ++ [r]) :=
  ⟨by simpa using hlen, List.nodup_append.2 ⟨h.nodup, List.nodup_singleton r, by
    simpa using fun a ha => ne_of_mem_of_not_mem ha hr⟩⟩

/-- The probe lasts as its kind does, with its pair partner where it is a PAIR probe (R125). -/
def ProbeTimed (p : Probe) : Prop :=
  (p.partner = none ∧ p.stop = p.start + 20) ∨ (p.partner = some (partnerOf p.chan) ∧ p.stop = p.start + 30)

theorem probesSound_iff (s : State) : ProbesSound s ↔ QueueSound s.probeQueue ∧
    ∀ p, s.probe = some p → (chanAt s p.chan).life = .dark ∧ ProbeTimed p := by
  constructor
  · rintro ⟨hlen, hnodup, hprobe⟩
    refine ⟨⟨hlen, hnodup⟩, fun p hp => ?_⟩
    rw [hp] at hprobe
    exact hprobe
  · rintro ⟨⟨hlen, hnodup⟩, hprobe⟩
    refine ⟨hlen, hnodup, ?_⟩
    split
    · exact hprobe _ ‹_›
    · trivial

/-- The IDLE engine is sound with a sound queue. -/
theorem probesSound_of_idle {s : State} (hp : s.probe = none) (hq : QueueSound s.probeQueue) : ProbesSound s :=
  (probesSound_iff s).2 ⟨hq, by simp [hp]⟩

/-! ### Looks -/

/-- A queue has an oldest serviceable entry, or none. -/
theorem oldest_serviceable (s : State) (q : List ProbeRequest) : (∀ b ∈ q, ¬ Serviceable s b) ∨
    ∃ before r rest, q = before ++ r :: rest ∧ (∀ b ∈ before, ¬ Serviceable s b) ∧ Serviceable s r := by
  induction q with
  | nil => exact .inl (by simp)
  | cons a q ih =>
    by_cases ha : Serviceable s a
    · exact .inr ⟨[], a, q, rfl, by simp, ha⟩
    · rcases ih with hnone | ⟨before, r, rest, rfl, hbefore, hr⟩
      · exact .inl (List.forall_mem_cons.2 ⟨ha, hnone⟩)
      · exact .inr ⟨a :: before, r, rest, rfl, List.forall_mem_cons.2 ⟨ha, hbefore⟩, hr⟩

/-- A look of the IDLE engine leaves a part of the queue, and starts an entry whose channel is DARK, or none. -/
theorem probesSound_look {s : State} (hp : s.probe = none) (hq : QueueSound s.probeQueue) : ProbesSound (look s) := by
  by_cases hempty : s.probeQueue = []
  · rw [look_of_empty hp hempty]
    exact probesSound_of_idle hp hq
  · rcases oldest_serviceable s s.probeQueue with hnone | ⟨before, r, rest, hsplit, hbefore, hr⟩
    · rw [look_of_passed hp hempty hnone, cancelAll_frame]
      exact probesSound_of_idle hp (hq.sublist List.filter_sublist)
    · rw [look_of_serviceable hp hsplit hbefore hr, cancelAll_frame, probesSound_iff]
      refine ⟨(hsplit ▸ hq).sublist (List.filter_sublist.append (List.sublist_cons_self ..)), fun p hstarted => ?_⟩
      cases hstarted
      refine ⟨of_decide_eq_true hr.1, ?_⟩
      cases hpair : r.pair
      · exact .inl ⟨by simp, by simp [probeTime]⟩
      · exact .inr ⟨by simp, by simp [probeTime]⟩

/-! ### Steps that keep the engine sound -/

/-- The probe engine stays sound. -/
structure ProbesKept (s t : State) : Prop where
  probes : ProbesSound s → ProbesSound t

theorem ProbesKept.refl (s : State) : ProbesKept s s := ⟨id⟩

theorem ProbesKept.trans {s t u : State} (h : ProbesKept s t) (k : ProbesKept t u) : ProbesKept s u :=
  ⟨k.probes ∘ h.probes⟩

theorem ProbesKept.ite {s t u : State} {q : Prop} [Decidable q] (ht : ProbesKept s t) (hu : ProbesKept s u) :
    ProbesKept s (if q then t else u) := by split <;> assumption

/-- A step that leaves the engine, and every DARK channel DARK. -/
theorem probesKept_of_dark {s t : State} (h : probesOf t = probesOf s)
    (hd : ∀ c, (chanAt s c).life = .dark → (chanAt t c).life = .dark) : ProbesKept s t := by
  obtain ⟨hqueue, hprobe⟩ := Prod.mk.inj h
  refine ⟨fun hs => ?_⟩
  rw [probesSound_iff] at hs ⊢
  rw [hqueue, hprobe]
  exact ⟨hs.1, fun p hp => ⟨hd _ (hs.2 p hp).1, (hs.2 p hp).2⟩⟩

/-- A step that leaves the engine and every channel. -/
theorem probesKept_of_channels {s t : State} (h : probesOf t = probesOf s) (hc : t.channels = s.channels) :
    ProbesKept s t := probesKept_of_dark h fun c hd => by rwa [chanAt_congr hc]

/-- A step of one channel that leaves the engine. -/
theorem probesKept_of_one {s t : State} (c : Chan) (h : probesOf t = probesOf s)
    (hd : ∀ d, d ≠ c → chanAt t d = chanAt s d) (hc : (chanAt s c).life = .dark → (chanAt t c).life = .dark) :
    ProbesKept s t := probesKept_of_dark h fun d => by
  by_cases hdc : d = c
  · exact hdc ▸ hc
  · rw [hd d hdc]
    exact id

theorem probesKept_modChan {c : Chan} {f : Channel → Channel} {s : State}
    (h : (chanAt s c).life = .dark → (f (chanAt s c)).life = .dark) : ProbesKept s (modChan c f s) :=
  probesKept_of_one c rfl (fun _ hd => chanAt_modChan_other hd f s) (by rwa [chanAt_modChan_self])

/-- A change of a channel that is not DARK. -/
theorem probesKept_modChan_of_not_dark {c : Chan} {s : State} (h : (chanAt s c).life ≠ .dark) (f : Channel → Channel) :
    ProbesKept s (modChan c f s) := probesKept_modChan fun hd => absurd hd h

@[simp] theorem probesOf_modPort (p : Port) (f : PortState → PortState) (s : State) :
    probesOf (modPort p f s) = probesOf s := by simp [probesOf]

@[simp] theorem probesOf_report (p : Port) (c : Option Chan) (b : ReportBody) (s : State) :
    probesOf (report p c b s) = probesOf s := probesOf_modPort ..

@[simp] theorem probesOf_reportChan (c : Chan) (b : ReportBody) (s : State) : probesOf (reportChan c b s) = probesOf s := rfl

@[simp] theorem probesOf_reply (p : Port) (k : Byte) (o : ReplyCode) (ws : List Word) (s : State) :
    probesOf (reply p k o ws s) = probesOf s := by simp [probesOf]

@[simp] theorem probesOf_done (p : Port) (cmd : Cmd) (ws : List Word) (s : State) :
    probesOf (done p cmd ws s) = probesOf s := probesOf_reply ..

@[simp] theorem probesOf_refuse (p : Port) (cmd : Cmd) (o : ReplyCode) (s : State) :
    probesOf (refuse p cmd o s) = probesOf s := probesOf_reply ..

theorem probesKept_reportChan (c : Chan) (b : ReportBody) (s : State) : ProbesKept s (reportChan c b s) :=
  probesKept_of_channels rfl (reportChan_channels ..)

theorem probesKept_look (s : State) : ProbesKept s (look s) := ⟨fun hs => by
  by_cases hp : s.probe = none
  · exact probesSound_look hp ((probesSound_iff s).1 hs).1
  · rwa [look_of_busy hp]⟩

/-- A request that is not queued joins a queue with room. -/
theorem probesKept_appendProbe {r : ProbeRequest} {s : State} (hr : r ∉ s.probeQueue) (hlen : s.probeQueue.length < 32) :
    ProbesKept s (appendProbe r s) := by
  refine ProbesKept.trans ⟨fun hs => ?_⟩ (probesKept_look _)
  rw [probesSound_iff] at hs ⊢
  exact ⟨hs.1.append hr hlen, hs.2⟩

theorem probesKept_requestLine (c : Chan) (s : State) : ProbesKept s (requestLine c s) := by
  by_cases hmem : { chan := c, pair := false } ∈ s.probeQueue
  · rw [requestLine_of_mem hmem]
    exact .refl s
  · by_cases hlen : s.probeQueue.length < 32
    · rw [requestLine_of_room hmem hlen]
      exact probesKept_appendProbe hmem hlen
    · rw [requestLine_of_full hmem (Nat.not_lt.1 hlen)]
      exact probesKept_reportChan ..

/-- A channel may leave DARK where its probe is cancelled with it (R129). -/
theorem probesKept_cancelProbe {c : Chan} {s t : State} (h : probesOf t = probesOf s)
    (hd : ∀ d, d ≠ c → chanAt t d = chanAt s d) : ProbesKept s (cancelProbe c t) := by
  obtain ⟨hqueue, hprobe⟩ := Prod.mk.inj h
  refine ⟨fun hs => ?_⟩
  rw [probesSound_iff, ← hqueue, ← hprobe] at hs
  obtain ⟨hq, hsound⟩ := hs
  cases hp : t.probe with
  | none =>
    rw [cancelProbe_of_none hp]
    exact probesSound_of_idle hp hq
  | some p =>
    by_cases hc : p.chan = c
    · rw [cancelProbe_of_own hp hc]
      exact probesSound_look rfl hq
    · rw [cancelProbe_of_other hp hc, probesSound_iff]
      refine ⟨hq, fun p' hp' => ?_⟩
      cases hp.symm.trans hp'
      rw [hd _ hc]
      exact hsound _ hp

/-! ### Entries to the unpowered states -/

theorem departed_life (g : Globals) (now : Nat) (ch : Channel) : (departed g now ch).life = ch.life := by
  unfold departed
  split <;> rfl

theorem probesOf_settleUnpowered (c : Chan) (own : Option ReportBody) (o : TestOutcome) (s : State) :
    probesOf (settleUnpowered c own o s) = probesOf s := by
  obtain ⟨x, sv, h⟩ := settleUnpowered_frame c own o s
  rw [h]
  rfl

theorem probesOf_enterFaulted (c : Chan) (cause : StateCause) (partner : Option Chan) (s : State) :
    probesOf (enterFaulted c cause partner s) = probesOf s := by
  obtain ⟨x, sv, h⟩ := enterFaulted_frame c cause partner s
  rw [h]
  rfl

theorem probesOf_enterRetired (c : Chan) (s : State) : probesOf (enterRetired c s) = probesOf s := by
  obtain ⟨x, sv, h⟩ := enterRetired_frame c s
  rw [h]
  rfl

theorem probesKept_enterDark (c : Chan) (cause : StateCause) (own : Option ReportBody) (o : TestOutcome) (s : State) :
    ProbesKept s (enterDark c cause own o s) := by
  have hsettled : ProbesKept s
      (settleUnpowered c own o (setChan c (darkResults cause (departed s.globals s.ms (chanAt s c))) s)) :=
    probesKept_of_one c (probesOf_settleUnpowered ..)
      (fun d hd => by rw [chanAt_settleUnpowered, if_neg hd, chanAt_setChan_other hd]) fun _ => by
        rw [chanAt_settleUnpowered, if_pos rfl, chanAt_setChan_self]
        rfl
  rw [enterDark_eq]
  exact .ite (hsettled.trans (probesKept_requestLine c _)) hsettled

/-- A channel that is not DARK is faulted: no probe of it is in progress. -/
theorem probesKept_enterFaulted {c : Chan} {s : State} (h : (chanAt s c).life ≠ .dark) (cause : StateCause)
    (partner : Option Chan) : ProbesKept s (enterFaulted c cause partner s) :=
  probesKept_of_one c (probesOf_enterFaulted ..) (fun d hd => by rw [chanAt_enterFaulted, if_neg hd]) fun hd => absurd hd h

/-! ### Outcomes of exchanges -/

theorem probesKept_countAttempt (c : Chan) (s : State) : ProbesKept s (countAttempt c s) := by
  have hcount : ProbesKept s (modChan c (fun ch => { ch with attempts := ch.attempts + 1 }) s) := probesKept_modChan id
  exact .ite (hcount.trans (probesKept_enterDark ..)) hcount

theorem probesKept_goSilent (c : Chan) (s : State) : ProbesKept s (goSilent c s) := by
  unfold goSilent
  exact probesKept_enterDark ..

theorem probesKept_goOpenLoad (c : Chan) (s : State) : ProbesKept s (goOpenLoad c s) := by
  unfold goOpenLoad
  exact probesKept_enterDark ..

theorem probesKept_countMiss (c : Chan) (s : State) : ProbesKept s (countMiss c s) := by
  have hcount : ProbesKept s (modChan c (fun ch => { ch with misses := ch.misses + 1 }) s) := probesKept_modChan id
  exact .ite (hcount.trans (probesKept_goSilent ..)) hcount

theorem probesKept_missAction (c : Chan) (s : State) : ProbesKept s (missAction c s) := by
  unfold missAction
  split
  · exact probesKept_countAttempt c s
  · exact probesKept_countMiss c s
  · exact probesKept_countMiss c s
  all_goals exact .refl s

theorem probesKept_helloAnswer {c : Chan} {s : State} (hl : (chanAt s c).life = .waking) (a : Answer) :
    ProbesKept s (helloAnswer c a s) :=
  (probesKept_modChan_of_not_dark (by simp [hl]) feedChannel).trans (probesKept_reportChan ..)

theorem probesKept_resultAnswer {c : Chan} {s : State} (hl : (chanAt s c).life = .resuming) (a : Answer) :
    ProbesKept s (resultAnswer c a s) := by
  refine probesKept_of_one c ?_ (fun d hd => by rw [chanAt_resultAnswer, if_neg hd]) fun hd => by simp [hl] at hd
  unfold resultAnswer
  split <;> rfl

theorem probesKept_settleMailbox (c : Chan) (o : MailOutcome) (m : Mailbox) (n : Nat) (f : Option StatusFields) (s : State) :
    ProbesKept s (settleMailbox c o m n f s) :=
  (probesKept_modChan (f := fun ch => { ch with mailbox := none }) id).trans (probesKept_reportChan ..)

theorem probesKept_refuseTest (c : Chan) (a : Answer) (s : State) : ProbesKept s (refuseTest c a s) := by
  unfold refuseTest
  split
  · exact (probesKept_modChan (f := fun ch => { ch with test := none, mailbox := none }) id).trans (probesKept_reportChan ..)
  · exact probesKept_modChan id

/-- A FED channel departs and enters TESTING. -/
theorem probesKept_beginTest {c : Chan} {s : State} (hl : (chanAt s c).life = .fed) (band : Nat) :
    ProbesKept s (modChan c (testChannel band) (depart c s)) := by
  rw [depart_eq]
  refine (probesKept_modChan_of_not_dark (by simp [hl]) _).trans (probesKept_modChan_of_not_dark ?_ _)
  rw [chanAt_modChan_self, departed_life, hl]
  decide

theorem probesKept_fedAnswer {c : Chan} {s : State} (hl : (chanAt s c).life = .fed) (e : Exchange) (a : Answer) :
    ProbesKept s (fedAnswer c e a s) := by
  have hmisses : ProbesKept s (modChan c (fun ch => { ch with misses := 0 }) s) := probesKept_modChan id
  have hfed : (chanAt (modChan c (fun ch => { ch with misses := 0 }) s) c).life = .fed := by rwa [chanAt_modChan_self]
  unfold fedAnswer
  refine hmisses.trans ?_
  generalize modChan c (fun ch => { ch with misses := 0 }) s = u at hfed ⊢
  cases e.cmd with
  | keep | wake | resultQuery => exact .refl u
  | query | aux n => exact probesKept_settleMailbox ..
  | doze =>
    exact .ite ((probesKept_modChan (f := fun ch => { ch with mailbox := none }) id).trans (probesKept_enterDark ..))
      (probesKept_settleMailbox ..)
  | beginTest => exact .ite (probesKept_beginTest hfed _) (probesKept_refuseTest c a u)

theorem probesKept_validAction (c : Chan) (e : Exchange) (a : Answer) (s : State) : ProbesKept s (validAction c e a s) := by
  unfold validAction
  split
  · exact probesKept_helloAnswer ‹_› a
  · exact probesKept_fedAnswer ‹_› e a
  · exact probesKept_resultAnswer ‹_› a
  all_goals exact .refl s

theorem probesKept_refreshStatus (c : Chan) (a : Answer) (s : State) : ProbesKept s (refreshStatus c a s) :=
  probesKept_modChan id

theorem probesKept_reportChange (c : Chan) (a : Answer) (frame : Nat) (old : Option StatusRecord) (s : State) :
    ProbesKept s (reportChange c a frame old s) := .ite (probesKept_reportChan ..) (.refl s)

theorem probesKept_exchangeOutcome (c : Chan) (e : Exchange) (o : ExchangeOutcome) (answer : Option Answer) (s : State) :
    ProbesKept s (exchangeOutcome c e o answer s) := by
  unfold exchangeOutcome
  split
  · rename_i a
    have hanswered : ProbesKept s (modChan c (fun ch => { ch with seq := !ch.seq }) (refreshStatus c a s)) :=
      (probesKept_refreshStatus c a s).trans (probesKept_modChan id)
    exact (hanswered.trans (probesKept_validAction c e a _)).trans (probesKept_reportChange ..)
  · exact ((probesKept_refreshStatus ..).trans (probesKept_missAction ..)).trans (probesKept_reportChange ..)
  · exact probesKept_missAction c s

/-! ### The steps of the line exchange units -/

theorem probesKept_exchangeStart (c : Chan) (s : State) : ProbesKept s (exchangeStart c s) := by
  unfold exchangeStart
  simp only
  split
  · exact .ite (probesKept_modChan id) (.refl s)
  · exact .refl s

theorem probesKept_setExchange (c : Chan) (e : Exchange) (s : State) : ProbesKept s (setExchange c e s) :=
  probesKept_modChan id

theorem probesKept_downlinkEnd (c : Chan) (baseline : Nat) (s : State) : ProbesKept s (downlinkEnd c baseline s) := by
  unfold downlinkEnd
  split
  · exact .ite (probesKept_setExchange ..) (.refl s)
  · exact .refl s

theorem probesKept_answerStart (c : Chan) (instant : Fin 1001) (rise : Rise) (s : State) :
    ProbesKept s (answerStart c instant rise s) := by
  unfold answerStart
  simp only
  split
  · exact .ite (probesKept_setExchange ..) (.refl s)
  · exact .refl s

theorem probesKept_takeExchange (c : Chan) (inside : Bool) (s : State) : ProbesKept s (modChan c (takeExchange inside) s) :=
  probesKept_modChan id

theorem probesKept_windowExpiry (c : Chan) (s : State) : ProbesKept s (windowExpiry c s) := by
  unfold windowExpiry
  split
  · exact .ite ((probesKept_takeExchange ..).trans (probesKept_exchangeOutcome ..)) (.refl s)
  · exact .refl s

theorem probesKept_uplinkEnd (c : Chan) (average : Nat) (s : State) : ProbesKept s (uplinkEnd c average s) := by
  unfold uplinkEnd
  split
  · exact .ite ((probesKept_takeExchange c _ s).trans (probesKept_exchangeOutcome ..)) (.refl s)
  · exact .refl s

/-! ### The steps of the feed switches -/

theorem probesKept_modSwitch (c : Chan) (f : FeedSwitch → FeedSwitch) (s : State) : ProbesKept s (modSwitch c f s) :=
  probesKept_modChan id

theorem probesKept_switchOnComplete (c : Chan) (s : State) : ProbesKept s (switchOnComplete c s) := by
  unfold switchOnComplete
  split
  · exact .ite (probesKept_modSwitch ..) (.refl s)
  · exact .refl s

theorem probesKept_rampEnd (c : Chan) (s : State) : ProbesKept s (rampEnd c s) := by
  unfold rampEnd
  simp only
  split
  · exact .ite (probesKept_modSwitch ..) (.refl s)
  · exact .refl s

theorem probesKept_chopPeriodStart (c : Chan) (s : State) : ProbesKept s (chopPeriodStart c s) := by
  unfold chopPeriodStart
  simp only
  split
  · exact .ite (probesKept_modSwitch ..) (.refl s)
  · exact .refl s

/-- A switch faults its channel from a powered state alone (R84). -/
theorem probesKept_faultFromSwitch (c : Chan) (cause : StateCause) (s : State) :
    ProbesKept s (faultFromSwitch c cause s) := by
  unfold faultFromSwitch
  split
  · rename_i hpowered
    exact probesKept_enterFaulted (fun hd => by simp [hd, powered] at hpowered) ..
  · exact .refl s

theorem probesKept_tripAssert (c : Chan) (s : State) : ProbesKept s (tripAssert c s) := by
  unfold tripAssert
  simp only
  split
  · refine .ite ?_ (.refl s)
    exact .ite ((probesKept_modSwitch ..).trans (probesKept_faultFromSwitch ..)) (probesKept_modSwitch ..)
  · exact .refl s

theorem probesKept_overcurrentAssert (c : Chan) (s : State) : ProbesKept s (overcurrentAssert c s) := by
  unfold overcurrentAssert
  simp only
  split
  · exact .ite (probesKept_faultFromSwitch ..) (.refl s)
  · exact .refl s

theorem probesKept_levelCrossing (c : Chan) (current : Nat) (instant : Fin 1001) (s : State) :
    ProbesKept s (levelCrossing c current instant s) := by
  refine .ite (probesKept_modChan fun h => ?_) (.refl s)
  unfold senseCurrent
  split <;> exact h

/-! ### The steps of the probe engine: with the probe over, its channel may leave DARK -/

theorem probesOf_actLine (c : Chan) (o : ProbeOutcome) (s : State) : probesOf (actLine c o s) = probesOf s := by
  cases o with
  | short | foreign => exact probesOf_enterFaulted ..
  | signature | openLine | clear | crossed | cancelled | notQueued => rfl

theorem probesOf_crossChannel (c partner : Chan) (s : State) : probesOf (crossChannel c partner s) = probesOf s :=
  probesOf_enterFaulted ..

theorem probesOf_actPair (c partner : Chan) (crossed : Bool) (s : State) :
    probesOf (actPair c partner crossed s) = probesOf s := by
  unfold actPair
  simp only
  split
  · split
    · rw [probesOf_crossChannel, probesOf_crossChannel]
    · exact probesOf_crossChannel ..
  · rfl

/-- A probe ends, and its outcome acts or not: the engine is IDLE with the queue as it was, and looks. -/
theorem probesKept_endProbe {s t u : State} {q : Prop} [Decidable q] (ht : probesOf t = (s.probeQueue, none))
    (hu : probesOf u = (s.probeQueue, none)) : ProbesKept s (look (if q then t else u)) := by
  have hidle : probesOf (if q then t else u) = (s.probeQueue, none) := by split <;> assumption
  obtain ⟨hqueue, hprobe⟩ := Prod.mk.inj hidle
  exact ⟨fun hs => probesSound_look hprobe (hqueue ▸ ((probesSound_iff s).1 hs).1)⟩

theorem probesKept_probeEndLine (reading : Nat) (s : State) : ProbesKept s (probeEndLine reading s) := by
  unfold probeEndLine
  split
  · exact .ite (probesKept_endProbe (probesOf_actLine ..) rfl) (.refl s)
  · exact .refl s

theorem probesKept_probeEndPair (reading : Nat) (s : State) : ProbesKept s (probeEndPair reading s) := by
  unfold probeEndPair
  split
  · exact .ite (probesKept_endProbe (probesOf_actPair ..) rfl) (.refl s)
  · exact .refl s

end Sys2Proof.Machine
end

/-! ## Every step keeps the probe engine sound (R121, R123, R125, R129)

A test context of a channel that is not TESTING could take a DARK channel to RESUMING, at an ABORT_TEST or a frame opening; so
these two ask that tests match their channels. -/

section
namespace Sys2Proof.Machine

/-! ### Commands that write no channel -/

theorem probesOf_doTake (p : Port) (s : State) : probesOf (doTake p s) = probesOf s := by
  unfold doTake
  split <;> simp

theorem probesOf_doWatermark (p : Port) (arg : Word) (s : State) : probesOf (doWatermark p arg s) = probesOf s := by
  unfold doWatermark
  simp only
  split <;> simp

theorem probesOf_doSeek (p : Port) (arg : Word) (s : State) : probesOf (doSeek p arg s) = probesOf s := by
  unfold doSeek
  split
  · split <;> simp
  · simp

theorem probesOf_readWord (p : Port) (s : State) : probesOf (readWord p s).2 = probesOf s := by
  obtain ⟨n, h⟩ := readWord_eq p s
  rw [h, probesOf_modPort]
  rfl

theorem probesOf_readWords (p : Port) (n : Nat) (s : State) : probesOf (readWords p n s).2 = probesOf s := by
  induction n generalizing s with
  | zero => rfl
  | succ n ih => exact (ih _).trans (probesOf_readWord p s)

theorem probesOf_doRead (p : Port) (arg : Word) (s : State) : probesOf (doRead p arg s) = probesOf s := by
  unfold doRead
  simp only
  split
  · rw [probesOf_done, probesOf_readWords]
  · simp

theorem probesOf_appendEdit (p : Port) (content : EditContent) (s : State) :
    probesOf (appendEdit p content s) = probesOf s := by
  rw [appendEdit, probesOf_done, probesOf_modPort]
  rfl

theorem probesOf_doPost (p : Port) (w1 w2 : Word) (s : State) : probesOf (doPost p w1 w2 s) = probesOf s := by
  unfold doPost
  split
  · simp
  · split
    · simp
    · split
      · simp
      · split
        · simp
        · exact probesOf_appendEdit ..

theorem probesOf_doCancelEdits (p : Port) (s : State) : probesOf (doCancelEdits p s) = probesOf s := probesOf_done ..

theorem probesOf_doSetGrant (p : Port) (arg : Word) (s : State) : probesOf (doSetGrant p arg s) = probesOf s := by
  unfold doSetGrant
  simp only
  split
  · split
    · rw [probesOf_done]
      rfl
    · simp
  · simp

theorem probesOf_doDeposit (p : Port) (arg : Word) (s : State) : probesOf (doDeposit p arg s) = probesOf s := by
  unfold doDeposit
  simp only
  split
  · split
    · rw [probesOf_done]
      split <;> rfl
    · simp
  · simp

theorem probesOf_doDrain (p : Port) (s : State) : probesOf (doDrain p s) = probesOf s := by
  unfold doDrain
  split
  · rw [probesOf_done]
    rfl
  · simp

/-! ### Votes and port reset -/

theorem probesKept_done (p : Port) (cmd : Cmd) (ws : List Word) (s : State) : ProbesKept s (done p cmd ws s) :=
  probesKept_of_channels (probesOf_done ..) (done_channels ..)

theorem probesKept_refuse (p : Port) (cmd : Cmd) (o : ReplyCode) (s : State) : ProbesKept s (refuse p cmd o s) :=
  probesKept_of_channels (probesOf_refuse ..) (refuse_channels ..)

theorem probesKept_modPort (p : Port) (f : PortState → PortState) (s : State) : ProbesKept s (modPort p f s) :=
  probesKept_of_channels (probesOf_modPort ..) (modPort_channels ..)

theorem probesKept_feedOff (changer : Port) (portReset : Bool) (s : State) : ProbesKept s (feedOff changer portReset s) := by
  refine probesKept_of_dark (by simp [feedOff, reportFeedState, probesOf]) fun c hd => ?_
  rw [chanAt_feedOff]
  exact hd

theorem probesKept_feedOn (changer : Port) (s : State) : ProbesKept s (feedOn changer s) :=
  probesKept_of_channels (by simp [feedOn, reportFeedState, probesOf]) (feedOn_channels ..)

theorem probesKept_doVote (p : Port) (arg : Word) (s : State) : ProbesKept s (doVote p arg s) := by
  have hset : ∀ on, ProbesKept s (setVote p on s) := fun _ => probesKept_modPort ..
  unfold doVote
  split
  · exact ProbesKept.trans (.ite ((hset false).trans (probesKept_feedOff ..)) (hset false)) (probesKept_done ..)
  · exact ProbesKept.trans (.ite ((hset true).trans (probesKept_feedOn ..)) (hset true)) (probesKept_done ..)
  · exact probesKept_refuse ..

theorem probesKept_doResetPort (p : Port) (s : State) : ProbesKept s (doResetPort p s) := by
  have hcleared : ProbesKept s (portCleared p s) :=
    probesKept_of_channels (by cases p <;> rfl) (portCleared_channels p s).1
  exact ProbesKept.trans (.ite (hcleared.trans (probesKept_feedOff ..)) hcleared) (probesKept_done ..)

/-! ### Channel commands -/

theorem probesKept_channelCommand {p : Port} {cmd : Cmd} {arg : Word} {s : State} {act : Chan → State}
    (h : ∀ c, ProbesKept s (act c)) : ProbesKept s (channelCommand p cmd arg s act) := by
  refine .ite ?_ (probesKept_refuse ..)
  split
  · exact h _
  · exact probesKept_refuse ..

/-- A change answered DONE with the channel's state. -/
theorem ProbesKept.doneChan {s t : State} (h : ProbesKept s t) (p : Port) (cmd : Cmd) (c : Chan) :
    ProbesKept s (doneChan p cmd c t) := h.trans (probesKept_done ..)

theorem probesKept_doProbe (p : Port) (arg : Word) (s : State) : ProbesKept s (doProbe p arg s) := by
  refine probesKept_channelCommand fun c => .ite (probesKept_refuse ..) (.ite (probesKept_refuse ..) ?_)
  split
  · exact probesKept_done ..
  · rename_i hmem
    split
    · rename_i hlen
      exact (probesKept_appendProbe (mt List.contains_iff_mem.2 hmem) hlen).trans (probesKept_done ..)
    · exact probesKept_refuse ..

/-- WAKE and RETIRE take a channel from DARK, and cancel its probe (R129). -/
theorem probesKept_doWake (p : Port) (arg : Word) (s : State) : ProbesKept s (doWake p arg s) := by
  refine probesKept_channelCommand fun c => ?_
  have hwake : ProbesKept s (cancelProbe c (modChan c wakeChannel s)) :=
    probesKept_cancelProbe rfl fun _ hd => chanAt_modChan_other hd wakeChannel s
  exact .ite (hwake.doneChan ..) (probesKept_refuse ..)

theorem probesKept_doRetire (p : Port) (arg : Word) (s : State) : ProbesKept s (doRetire p arg s) :=
  probesKept_channelCommand fun c => .ite (probesKept_refuse ..)
    ((probesKept_cancelProbe (probesOf_enterRetired c s) fun d hd => by rw [chanAt_enterRetired, if_neg hd]).doneChan ..)

theorem probesKept_doRelease (p : Port) (arg : Word) (s : State) : ProbesKept s (doRelease p arg s) :=
  probesKept_channelCommand fun _ =>
    .ite ((ProbesKept.trans (probesKept_modChan id) (probesKept_enterDark ..)).doneChan ..) (probesKept_refuse ..)

theorem probesKept_doClearFault (p : Port) (arg : Word) (s : State) : ProbesKept s (doClearFault p arg s) :=
  probesKept_channelCommand fun _ =>
    .ite (probesKept_refuse ..) (.ite ((probesKept_enterDark ..).doneChan ..) (probesKept_refuse ..))

theorem probesKept_doTest (p : Port) (arg : Word) (s : State) : ProbesKept s (doTest p arg s) :=
  probesKept_channelCommand fun _ => .ite (probesKept_refuse ..) (.ite (probesKept_refuse ..) (.ite (probesKept_refuse ..)
    (.ite (probesKept_refuse ..) ((probesKept_modChan id).doneChan ..))))

theorem probesKept_endTest (c : Chan) (o : TestOutcome) (s : State) : ProbesKept s (endTest c o s) := by
  unfold endTest
  split
  · exact ProbesKept.trans (probesKept_modChan id) (probesKept_reportChan ..)
  · exact .refl s

/-- Only a TESTING channel goes to RESUMING (R140). -/
theorem probesKept_doAbortTest {s : State} (hs : TestsMatch s) (p : Port) (arg : Word) :
    ProbesKept s (doAbortTest p arg s) := by
  refine probesKept_channelCommand fun c => ?_
  simp only
  split
  · exact probesKept_refuse ..
  · rename_i k hk
    split
    · exact .ite (probesKept_refuse ..) ((probesKept_endTest ..).doneChan ..)
    · rename_i hphase
      have hl := (testsMatch_facts hs c).running k hk hphase
      exact (probesKept_modChan_of_not_dark (by simp [hl]) _).doneChan ..
    · exact probesKept_refuse ..

theorem probesKept_doSend (p : Port) (arg : Word) (s : State) : ProbesKept s (doSend p arg s) := by
  refine probesKept_channelCommand fun c => ?_
  simp only
  split
  · exact probesKept_refuse ..
  · exact .ite (probesKept_refuse ..) (.ite (probesKept_refuse ..) (.ite (probesKept_refuse ..)
      ((probesKept_modChan id).doneChan ..)))

theorem probesKept_runCommand {s : State} (hs : TestsMatch s) (cmd : Cmd) (p : Port) (args : List Word) :
    ProbesKept s (runCommand cmd p args s) := by
  cases cmd with
  | nop => exact probesKept_done ..
  | status => exact probesKept_done ..
  | seek => exact probesKept_of_channels (probesOf_doSeek ..) (doSeek_channels ..)
  | read => exact probesKept_of_channels (probesOf_doRead ..) (doRead_channels ..)
  | take => exact probesKept_of_channels (probesOf_doTake ..) (doTake_channels ..)
  | ack => exact (probesKept_modPort ..).trans (probesKept_done ..)
  | mask => exact (probesKept_modPort ..).trans (probesKept_done ..)
  | watermark => exact probesKept_of_channels (probesOf_doWatermark ..) (doWatermark_channels ..)
  | vote => exact probesKept_doVote ..
  | resetPort => exact probesKept_doResetPort ..
  | post => exact probesKept_of_channels (probesOf_doPost ..) (doPost_channels ..)
  | cancelEdits => exact probesKept_of_channels (probesOf_doCancelEdits ..) (done_channels ..)
  | probe => exact probesKept_doProbe ..
  | wake => exact probesKept_doWake ..
  | retire => exact probesKept_doRetire ..
  | release => exact probesKept_doRelease ..
  | clearFault => exact probesKept_doClearFault ..
  | test => exact probesKept_doTest ..
  | abortTest => exact probesKept_doAbortTest hs ..
  | send => exact probesKept_doSend ..
  | setGrant => exact probesKept_of_channels (probesOf_doSetGrant ..) (doSetGrant_channels ..)
  | deposit => exact probesKept_of_channels (probesOf_doDeposit ..) (doDeposit_channels ..)
  | drain => exact probesKept_of_channels (probesOf_doDrain ..) (doDrain_channels ..)

/-- One command after another: each finds the tests matched, as the one before left them. -/
theorem Runs.probesKept {s t : State} (h : Runs s t) (hs : TestsMatch s) : ProbesKept s t := by
  induction h with
  | framed h => exact probesKept_of_channels (congrArg probesOf h :) (congrArg State.channels h :)
  | command cmd p args s => exact probesKept_runCommand hs ..
  | trans hfirst _ ih1 ih2 => exact (ih1 hs).trans (ih2 (hfirst.testsKept.tests hs))

/-! ### The steps of the timebase -/

theorem probesKept_sampleEvent (bus : Nat) (readings : Vector Reading 24) (s : State) :
    ProbesKept s (sampleEvent bus readings s) := by
  refine probesKept_of_dark (by rw [sampleEvent_eq]; rfl) fun c hd => ?_
  obtain ⟨m, so, n, due, h⟩ := sampleChannel_frame (s.ms + 1) (min bus 6000) readings[c] (chanAt s c)
  rw [chanAt_sampleEvent, h]
  exact hd

theorem probesOf_slotEnd (s : State) : probesOf (slotEnd s) = probesOf s := by
  obtain ⟨cs, en, fr, rp, sp, dr, ov, h⟩ := closeEntries_frame s.admitted s
  by_cases hlast : s.slotIndex + 1 = s.layout.slots
  · rw [slotEnd_of_last hlast, h]
    rfl
  · rw [slotEnd_of_not_last hlast, h]
    rfl

/-- The life of a channel is no part of a slot's closing. -/
theorem life_closeEntries (es : List Entry) (s : State) (c : Chan) :
    (chanAt (es.foldl closeEntry s) c).life = (chanAt s c).life := by
  refine List.foldlRecOn es closeEntry (motive := fun u => (chanAt u c).life = (chanAt s c).life) rfl fun u hu e _ => ?_
  rw [chanAt_closeEntry, ← hu]
  split <;> rfl

theorem probesKept_slotEnd (s : State) : ProbesKept s (slotEnd s) :=
  probesKept_of_dark (probesOf_slotEnd s) fun c hd => by
    rw [chanAt_slotEnd]
    exact (life_closeEntries ..).trans hd

theorem probesOf_frameOpening (s : State) : probesOf (frameOpening s) = probesOf s := by
  obtain ⟨ro, la, gl, st, df, fl, al, cs, sv, en, h⟩ := applyEdit_foldl_frame s.edits (advanceFrame s)
  rw [frameOpening_frame, editedFrame, h]
  rfl

/-- The edits of a frame opening leave every channel's life and test, whatever they carry. -/
theorem editedFrame_life_and_test (s : State) (c : Chan) : (chanAt (editedFrame s) c).life = (chanAt s c).life ∧
    (chanAt (editedFrame s) c).test = (chanAt s c).test := by
  refine List.foldlRecOn s.edits applyEdit
    (motive := fun u => (chanAt u c).life = (chanAt s c).life ∧ (chanAt u c).test = (chanAt s c).test) ⟨rfl, rfl⟩
    fun u hu e _ => ?_
  rcases chanAt_applyEdit u e c with heq | ⟨cfg, t, -, heq⟩
  · rw [heq]
    exact hu
  · rw [heq]
    exact hu

/-- Only a TESTING channel's frames are counted, so a DARK one stays DARK (R139). -/
theorem probesKept_frameOpening {s : State} (hs : TestsMatch s) : ProbesKept s (frameOpening s) :=
  probesKept_of_dark (probesOf_frameOpening s) fun c hd => by
    obtain ⟨hlife, htest⟩ := editedFrame_life_and_test s c
    rw [chanAt_frameOpening, countFrame_of_not_running, hlife, hd]
    intro k hk hphase
    have hl := (testsMatch_facts hs c).running k (htest ▸ hk) hphase
    cases hd.symm.trans hl

theorem life_slotStartChannel (g : Globals) (now len : Nat) (listed exchange : Bool) (ch : Channel) :
    (slotStartChannel g now len listed exchange ch).life = ch.life := by
  cases listed
  · rw [slotStartChannel_of_unlisted]
  · rw [slotStartChannel_of_listed]

theorem probesKept_beginSlot (s : State) : ProbesKept s (beginSlot s) := by
  have hengine : probesOf (slotAdmitted s) = probesOf s := by
    obtain ⟨low, n, en, h⟩ := slotBase_eq s
    rw [slotAdmitted_frame, h]
    rfl
  have hadmitted : ProbesKept s (slotAdmitted s) := probesKept_of_dark hengine fun c hd => by
    obtain ⟨n, hn, -⟩ := chanAt_countSheds_range (slotBudget s).shed (slotBase s) c
    rw [chanAt_slotAdmitted, life_slotStartChannel, hn, chanAt_slotBase]
    exact hd
  rw [beginSlot_eq]
  exact .ite (hadmitted.trans (probesKept_look _)) hadmitted

/-- The release and the slot index are no part of the engine. -/
theorem probesKept_startWrite (r : Bool) (index : Nat) (adr1 adr0 : Bool) (s : State) :
    ProbesKept s { s with inReset := r, slotIndex := index, strap1 := adr1, strap0 := adr0 } :=
  probesKept_of_channels rfl rfl

/-! ### Every step -/

theorem probesKept_whenLive {s t : State} (h : ProbesKept s t) : AnswersWith ProbesKept s (whenLive s t) :=
  ⟨_, rfl, .ite (.refl s) h⟩

theorem exec_probesKept (i : Instr) {s : State} (hs : TestsMatch s) : AnswersWith ProbesKept s (exec i s) := by
  cases hp : commandPort i with
  | some p =>
    obtain ⟨t, ht, hruns⟩ := exec_runs hp s
    exact ⟨t, ht, hruns.probesKept hs⟩
  | none =>
    cases i with
    | deviceReset => exact ⟨_, rfl, ⟨fun _ => probesSound_reset s.pending s.freeCount⟩⟩
    | resetRelease adr1 adr0 =>
      exact ⟨_, rfl,
        .ite ((probesKept_startWrite false s.slotIndex adr1 adr0 s).trans (probesKept_beginSlot _)) (.refl s)⟩
    | sampleEvent bus readings => exact probesKept_whenLive (.ite (probesKept_sampleEvent ..) (.refl s))
    | slotEnd => exact probesKept_whenLive (.ite (probesKept_slotEnd s) (.refl s))
    | frameOpening => exact probesKept_whenLive (.ite (probesKept_frameOpening hs) (.refl s))
    | slotStart =>
      refine probesKept_whenLive ?_
      split
      · rename_i hready
        rw [slotStart_eq hready]
        exact (probesKept_startWrite s.inReset _ s.strap1 s.strap0 s).trans (probesKept_beginSlot _)
      · exact .refl s
    | openLoadLost c => exact probesKept_whenLive (.ite (probesKept_goOpenLoad c s) (.refl s))
    | switchOnComplete c => exact probesKept_whenLive (probesKept_switchOnComplete c s)
    | rampEnd c => exact probesKept_whenLive (probesKept_rampEnd c s)
    | chopPeriodStart c => exact probesKept_whenLive (probesKept_chopPeriodStart c s)
    | tripAssert c => exact probesKept_whenLive (probesKept_tripAssert c s)
    | overcurrentAssert c => exact probesKept_whenLive (probesKept_overcurrentAssert c s)
    | detectorLevelCrossing c current instant => exact probesKept_whenLive (probesKept_levelCrossing c current instant s)
    | exchangeStart c => exact probesKept_whenLive (probesKept_exchangeStart c s)
    | downlinkEnd c b => exact probesKept_whenLive (probesKept_downlinkEnd c b s)
    | answerStart c instant rise => exact probesKept_whenLive (probesKept_answerStart c instant rise s)
    | windowExpiry c => exact probesKept_whenLive (probesKept_windowExpiry c s)
    | uplinkEnd c average => exact probesKept_whenLive (probesKept_uplinkEnd c average s)
    | probeEndLine reading => exact probesKept_whenLive (probesKept_probeEndLine reading s)
    | probeEndPair reading => exact probesKept_whenLive (probesKept_probeEndPair reading.val s)
    | _ => cases hp

/-- Settles O59: every step keeps the probe queue and the probe in progress sound, where the tests match. -/
theorem probesStaySound : Obligations.ProbesStaySound := by
  unfold Obligations.ProbesStaySound
  intro s t hmatch hs h
  unfold step at h
  split at h
  · cases h
    exact hs
  · rename_i i rest _
    exact ((exec_probesKept (s := { s with pending := rest }) i hmatch).elim h).probes hs

end Sys2Proof.Machine
end

/-! ## POST and CANCEL_EDITS (R146 to R148, R154) -/

section
namespace Sys2Proof.Machine

/-! ### The kind and its poster (R147, chapter 12.2) -/

theorem editPoster_table (k : EditKind) : editPoster k = if k = .classHold ∨ k = .floors then .energy else .service := by
  cases k <;> rfl

/-- A code beyond the table names no edit kind. -/
theorem editKindOf_of_gt {n : Nat} (h : 7 < n) : editKindOf n = none := by
  unfold editKindOf
  split
  case h_9 => rfl
  all_goals omega

theorem editKindOf_of_le {n : Nat} (h : n ≤ 7) : ∃ k, editKindOf n = some k := by
  interval_cases n <;> exact ⟨_, rfl⟩

/-- Kinds 0 to 5 are the service port's, 6 and 7 the energy port's. -/
theorem editPoster_eq_iff {n : Nat} {k : EditKind} (h : editKindOf n = some k) (p : Port) :
    editPoster k = p ↔ p = .service ∧ n ≤ 5 ∨ p = .energy ∧ (n = 6 ∨ n = 7) := by
  unfold editKindOf at h
  split at h
  case h_9 => cases h
  all_goals cases h; cases p <;> simp [editPoster]

/-! ### POST (R146) -/

theorem exec_post {p : Port} {w1 w2 : Word} {s : State} (h : commandDue p .post [w1, w2] s = true) :
    exec (.post p w1 w2) s = .next (doPost p w1 w2 (commandTaken p s)) :=
  congrArg Host.Outcome.next (atPort_of_due h (doPost p w1 w2))

theorem doPost_of_unknown {w1 : Word} (h : editKindOf (bits 31 24 w1) = none) (p : Port) (w2 : Word) (s : State) :
    doPost p w1 w2 s = refuse p .post .badArgument s := by
  simp only [doPost, h]

/-- A kind of the table: the right to it first, then its fields, then the room in the queue. -/
theorem doPost_of_kind {w1 : Word} {k : EditKind} (h : editKindOf (bits 31 24 w1) = some k) (p : Port) (w2 : Word)
    (s : State) : doPost p w1 w2 s =
      if editPoster k ≠ p then refuse p .post .notPermitted s
      else (editOfWords k w1 w2).elim (refuse p .post .badArgument s) fun content =>
        if 16 ≤ s.edits.length then refuse p .post .queueFull s else appendEdit p content s := by
  simp only [doPost, h]
  cases editOfWords k w1 w2 <;> rfl

/-- With room in the queue the depth in the reply is not cut. -/
theorem appendEdit_of_room {s : State} (h : s.edits.length < 16) (p : Port) (content : EditContent) :
    appendEdit p content s = reply p 0x0A .done
      [BitVec.ofNat 32 ((portOf s p).tagCounter % 65536 * 65536 + (s.edits.length + 1))]
      (modPort p (fun ps => { ps with tagCounter := ((portOf s p).tagCounter + 1) % 65536 })
        { s with edits := s.edits ++ [{ poster := p, tag := (portOf s p).tagCounter, content := content }] }) := by
  have hdepth : (s.edits.length + 1) % 256 = s.edits.length + 1 := Nat.mod_eq_of_lt (by omega)
  simp [appendEdit, done, Cmd.code, wordOf, place, hdepth]

/-- Settles O43: the kind, its poster, the fields, the room, in their order. -/
theorem postJoinsQueue : Obligations.PostJoinsQueue := by
  unfold Obligations.PostJoinsQueue
  refine ⟨fun _ => rfl, editPoster_table, ?_⟩
  intro p w1 w2 s hdue u code own
  rw [exec_post hdue]
  refine ⟨fun h => ?_, fun h hown => ?_, fun k hown hk hwords => ?_, fun k content hown hk hwords => ?_⟩
  · rw [doPost_of_unknown (editKindOf_of_gt h)]
    rfl
  · obtain ⟨k, hk⟩ := editKindOf_of_le h
    rw [doPost_of_kind hk, if_pos (mt (editPoster_eq_iff hk p).1 hown)]
    rfl
  · rw [doPost_of_kind hk, if_neg (not_not.2 ((editPoster_eq_iff hk p).2 hown)), hwords]
    rfl
  · rw [doPost_of_kind hk, if_neg (not_not.2 ((editPoster_eq_iff hk p).2 hown)), hwords, Option.elim_some]
    refine ⟨fun hfull => ?_, fun hroom => ?_⟩
    · rw [if_pos hfull]
      rfl
    · rw [if_neg (Nat.not_le.2 hroom), appendEdit_of_room hroom]

/-! ### CANCEL_EDITS (R154) -/

theorem exec_cancelEdits {p : Port} {s : State} (h : commandDue p .cancelEdits [] s = true) :
    exec (.cancelEdits p) s = .next (doCancelEdits p (commandTaken p s)) :=
  congrArg Host.Outcome.next (atPort_of_due h (doCancelEdits p))

/-- The pending edits are the port's own and the other's. -/
theorem length_ownEdits_add (p : Port) (es : List Edit) :
    (es.filter fun e => e.poster = p).length + (es.filter fun e => e.poster ≠ p).length = es.length := by
  simpa using (List.length_eq_length_filter_add (l := es) fun e => decide (e.poster = p)).symm

/-- Settles O45: the depth before less the depth after is the number of the port's own. -/
theorem cancelEditsRemovesOwn : Obligations.CancelEditsRemovesOwn := by
  unfold Obligations.CancelEditsRemovesOwn
  intro p s hdue hlen u kept
  have hdepth : u.edits.length ≤ 16 := hlen
  have hsum : (u.edits.filter fun e => e.poster = p).length + kept.length = u.edits.length := length_ownEdits_add p u.edits
  have hremoved : u.edits.length - kept.length = (u.edits.filter fun e => e.poster = p).length := by omega
  have hword : wordOf [place 8 8 (u.edits.length - kept.length), place 8 0 kept.length] =
      BitVec.ofNat 32 ((u.edits.filter fun e => e.poster = p).length * 256 + kept.length) := by
    rw [hremoved, place_of_lt (by omega), place_of_lt (by omega)]
    simp [wordOf]
  rw [exec_cancelEdits hdue, ← hword]
  rfl

end Sys2Proof.Machine
end

/-! ## What completes a command at each port, and its reply (R157 to R160, R163, R165) -/

section
namespace Sys2Proof.Machine

/-! ### Words and their bytes (R163, R165) -/

theorem wordOfBytes_eq_append (a b c d : Byte) : wordOfBytes a b c d = a ++ b ++ c ++ d := by
  refine BitVec.eq_of_toNat_eq ?_
  have ha := a.isLt
  have hb := b.isLt
  have hc := c.isLt
  have hd := d.isLt
  have hor (m : Nat) (x : Byte) : m * 2 ^ 8 ||| x.toNat = m * 2 ^ 8 + x.toNat := by
    rw [← Nat.shiftLeft_eq, Nat.shiftLeft_add_eq_or_of_lt x.isLt]
  simp only [wordOfBytes, BitVec.toNat_append, Nat.shiftLeft_eq, hor, BitVec.toNat_ofNat]
  omega

/-- The four bytes of a word make it again. -/
theorem wordOfBytes_bytes (w : Word) :
    wordOfBytes (w.extractLsb' 24 8) (w.extractLsb' 16 8) (w.extractLsb' 8 8) (w.extractLsb' 0 8) = w := by
  refine BitVec.eq_of_toNat_eq ?_
  have hw := w.isLt
  simp only [wordOfBytes, BitVec.toNat_ofNat, BitVec.extractLsb'_toNat, Nat.shiftRight_eq_div_pow]
  omega

/-- Words with the same bytes are the same words. -/
theorem flatMap_bytesOf_injective {ws vs : List Word} (h : ws.flatMap bytesOf = vs.flatMap bytesOf) : ws = vs := by
  induction ws generalizing vs with
  | nil =>
    cases vs with
    | nil => rfl
    | cons v vs => cases h
  | cons w ws ih =>
    cases vs with
    | nil => cases h
    | cons v vs =>
      simp only [List.flatMap_cons, bytesOf, List.cons_append, List.nil_append, List.cons.injEq] at h
      obtain ⟨h3, h2, h1, h0, hrest⟩ := h
      rw [← wordOfBytes_bytes w, ← wordOfBytes_bytes v, h3, h2, h1, h0, ih hrest]

theorem length_flatMap_bytesOf (ws : List Word) : (ws.flatMap bytesOf).length = 4 * ws.length := by
  induction ws with
  | nil => rfl
  | cons w ws ih => simp only [List.flatMap_cons, List.length_append, ih, List.length_cons, bytesOf, List.length_nil]; omega

/-- All bytes of argument words but the last byte. -/
theorem dropLast_flatMap_bytesOf (init : List Word) (l : Word) : ((init ++ [l]).flatMap bytesOf).dropLast =
    init.flatMap bytesOf ++ [l.extractLsb' 24 8, l.extractLsb' 16 8, l.extractLsb' 8 8] := by
  rw [List.flatMap_append, List.dropLast_append_of_ne_nil (by simp [bytesOf])]
  rfl

/-- With less than a word in progress, the bytes held are all of a command's argument bytes but the last exactly where the
words completed and the three bytes in progress are. -/
theorem held_of_bytes {a : Assembly} {init : List Word} {l : Word} (hpart : a.part.length < 4)
    (h : heldBytes a = ((init ++ [l]).flatMap bytesOf).dropLast) :
    a.words = init ∧ a.part = [l.extractLsb' 24 8, l.extractLsb' 16 8, l.extractLsb' 8 8] := by
  rw [heldBytes, dropLast_flatMap_bytesOf] at h
  have hlen := congrArg List.length h
  simp only [List.length_append, length_flatMap_bytesOf, List.length_cons, List.length_nil] at hlen
  obtain ⟨hwords, hpart'⟩ := List.append_inj h (by simp only [length_flatMap_bytesOf]; omega)
  exact ⟨flatMap_bytesOf_injective hwords, hpart'⟩

/-! ### Codes (chapter 12.2) -/

theorem ofCode_eq_some_iff {code : Byte} {cmd : Cmd} : Cmd.ofCode code = some cmd ↔ cmd.code = code := by
  constructor
  · intro h
    simpa using List.find?_some h
  · rintro rfl
    cases cmd <;> rfl

theorem argWordsOf_of_ofCode {code : Byte} {cmd : Cmd} (h : Cmd.ofCode code = some cmd) : argWordsOf code = cmd.argWords := by
  simp only [argWordsOf, h]

/-! ### The service port (R159, R160) -/

theorem passWord_eq (t : ServiceTransaction) (f : ServiceTransaction → ServiceTransaction) (s : State) : passWord t f s =
    { s with transaction := some (f { t with outgoing := t.outgoing.tail }), sdo := some (t.outgoing.headD 0xFFFFFFFF) } := by
  simp only [passWord, shiftOut]
  cases t.outgoing <;> rfl

theorem commandTaken_service {s : State} {t : ServiceTransaction} (h : s.transaction = some t) :
    commandTaken .service s = passWord t (fun t => { t with done := true }) s := by
  simp only [commandTaken, h]

/-! ### The energy port (R163) -/

theorem flushLone_of_not_lone {s : State} (h : s.assembly.lone = false) : flushLone s = s := by simp [flushLone, h]

theorem wordOfPart_of_lt {part : List Byte} (h : part.length < 4) : wordOfPart part = none := by
  unfold wordOfPart
  split
  · exact absurd h (by simp)
  · rfl

/-- A byte that completes no word joins the word in progress. -/
theorem joinByte_of_lt {s : State} {code : Byte} (hcmd : s.assembly.cmd = some code) (hpart : s.assembly.part.length < 3)
    (b : Byte) : joinByte b s = { s with assembly := { s.assembly with part := s.assembly.part ++ [b] } } := by
  have hlen : (s.assembly.part ++ [b]).length < 4 := by
    rw [List.length_append]
    exact Nat.succ_lt_succ hpart
  have hw := wordOfPart_of_lt hlen
  simp only [joinByte, hcmd, hw]

/-- A byte that completes a word: the last word of the command executes it. -/
theorem joinByte_of_part {s : State} {cmd : Cmd} {code b1 b2 b3 : Byte} (hcmd : s.assembly.cmd = some code)
    (hcode : Cmd.ofCode code = some cmd) (hpart : s.assembly.part = [b1, b2, b3]) (b : Byte) : joinByte b s =
      if cmd.argWords ≤ (s.assembly.words ++ [b1 ++ b2 ++ b3 ++ b]).length then
        runCommand cmd .energy (s.assembly.words ++ [b1 ++ b2 ++ b3 ++ b]) { s with assembly := .reset }
      else { s with assembly := { s.assembly with words := s.assembly.words ++ [b1 ++ b2 ++ b3 ++ b], part := [] } } := by
  simp only [joinByte, hcmd, hpart, List.cons_append, List.nil_append, wordOfPart, wordOfBytes_eq_append,
    argWordsOf_of_ofCode hcode, hcode]

/-- A lone STATUS code joins the word in progress when its write goes on (R164). -/
theorem flushLone_of_lone {s : State} (h : s.assembly.lone = true) :
    flushLone s = joinByte 0x01 { s with assembly := { s.assembly with lone := false } } := if_pos h

/-- A lone STATUS code that completes no word leaves all but the byte assembly. -/
theorem flushLone_of_lt {s : State} (hpart : s.assembly.part.length < 3) : ∃ a, flushLone s = { s with assembly := a } := by
  cases hlone : s.assembly.lone with
  | false => exact ⟨s.assembly, flushLone_of_not_lone hlone⟩
  | true =>
    rw [flushLone_of_lone hlone]
    cases hcmd : s.assembly.cmd with
    | none => exact ⟨{ s.assembly with lone := false }, by simp only [joinByte, hcmd]⟩
    | some code => exact ⟨_, joinByte_of_lt (s := { s with assembly := { s.assembly with lone := false } }) hcmd hpart _⟩

theorem commandTaken_energy {s : State} {n : Nat} {a : Assembly} (hbus : s.bus = .write n)
    (hflush : flushLone s = { s with assembly := a }) : commandTaken .energy s =
      { s with bus := .write (n + 1), ackOut := true, assembly := .reset } := by
  simp only [commandTaken, hflush, hbus, countByte]

theorem commandTaken_energy_of_not_lone {s : State} {n : Nat} (hlone : s.assembly.lone = false) (hbus : s.bus = .write n) :
    commandTaken .energy s = { s with bus := .write (n + 1), ackOut := true, assembly := .reset } :=
  commandTaken_energy (a := s.assembly) hbus (flushLone_of_not_lone hlone)

/-- In phase COMMAND, with nothing held, what takes a command byte counts it. -/
theorem commandTaken_energy_of_reset {s : State} {n : Nat} (hbus : s.bus = .write n) (h : s.assembly = .reset) :
    commandTaken .energy s = countByte n s := by
  rw [commandTaken_energy_of_not_lone (by rw [h]; rfl) hbus, ← h]
  rfl

/-- Settles O6: a reply by the port, and what takes a command by the framing of its port. -/
theorem portPlumbing : Obligations.PortPlumbing := by
  unfold Obligations.PortPlumbing
  refine ⟨fun code o ws s => ⟨rfl, rfl⟩, fun s t ht => ?_, fun s n hbus h => ?_⟩
  · rw [commandTaken_service ht, passWord_eq]
  · have hflush : ∃ a, flushLone s = { s with assembly := a } :=
      h.elim (fun hlone => ⟨s.assembly, flushLone_of_not_lone hlone⟩) flushLone_of_lt
    obtain ⟨a, ha⟩ := hflush
    exact commandTaken_energy hbus ha

/-! ### Framing at the service port (R159 to R161) -/

theorem serviceWord_of_done {s : State} {t : ServiceTransaction} (ht : s.transaction = some t) (hd : t.done = true) (w : Word) :
    serviceWord w s = passWord t id s := by simp only [serviceWord, ht, hd, if_true]

/-- The first word of a transaction is its command word. -/
theorem serviceWord_of_first {s : State} {t : ServiceTransaction} (ht : s.transaction = some t) (hd : t.done = false)
    (hw : t.words = []) (w : Word) : serviceWord w s =
      (Cmd.ofCode (commandByte w)).elim (refuseUnknown .service (commandByte w) (commandTaken .service s)) fun cmd =>
        if cmd.argWords = 0 then runCommand cmd .service [] (commandTaken .service s)
        else passWord t (fun t => { t with words := [w] }) s := by
  simp only [serviceWord, ht, hd, hw, commandTaken_service ht]
  cases Cmd.ofCode (commandByte w) <;> rfl

/-- A later word is an argument word: the last one executes the command. -/
theorem serviceWord_of_argument {s : State} {t : ServiceTransaction} {cw : Word} {args : List Word} {cmd : Cmd}
    (ht : s.transaction = some t) (hd : t.done = false) (hw : t.words = cw :: args)
    (hcmd : Cmd.ofCode (commandByte cw) = some cmd) (w : Word) : serviceWord w s =
      if args.length + 1 = cmd.argWords then runCommand cmd .service (args ++ [w]) (commandTaken .service s)
      else passWord t (fun t => { t with words := cw :: (args ++ [w]) }) s := by
  simp only [serviceWord, ht, hd, hw, hcmd, commandTaken_service ht]
  rfl

theorem exec_serviceWordCompletion {s : State} (h : s.inReset = false) (w : Word) :
    exec (.serviceWordCompletion w) s = .next (serviceWord w s) := whenLive_of_live h _

theorem exec_serviceSelect {s : State} (h : s.inReset = false) : exec .serviceSelect s = .next (serviceSelect s) :=
  whenLive_of_live h _

theorem exec_serviceDeselect {s : State} (h : s.inReset = false) : exec .serviceDeselect s = .next (serviceDeselect s) :=
  whenLive_of_live h _

/-- Settles O29: by the transaction in progress, its command and its words. -/
theorem serviceFraming : Obligations.ServiceFraming := by
  unfold Obligations.ServiceFraming
  intro s hlive
  simp only [exec_serviceSelect hlive, exec_serviceDeselect hlive, exec_serviceWordCompletion hlive, Host.Outcome.next.injEq]
  refine ⟨fun hnone => ?_, fun w hnone => ?_, fun t ht => ?_⟩
  · simp only [serviceSelect, hnone]
    rfl
  · simp only [serviceWord, hnone]
  · refine ⟨?_, fun w hd => ?_, fun w cmd hd hw hcmd hargs => ?_, fun w cw args cmd hd hw hcmd hargs => ?_, fun h => ?_,
      fun cw args hd hw => ?_⟩
    · simp only [serviceSelect, ht]
    · rw [serviceWord_of_done ht hd, passWord_eq]
      rfl
    · simp only [serviceWord_of_first ht hd hw, hcmd, Option.elim_some, if_neg hargs.ne', passWord_eq]
    · rw [serviceWord_of_argument ht hd hw hcmd, if_neg hargs.ne, passWord_eq]
    · rcases h with hd | hw
      · simp only [serviceDeselect, ht, hd, if_true]
      · simp only [serviceDeselect, ht, hw, ite_self]
    · simp only [serviceDeselect, ht, hd, hw]
      rfl

end Sys2Proof.Machine
end

/-! ## A command's row, and the word or byte that completes it (R159, R163, R166) -/

section
namespace Sys2Proof.Machine

/-! ### When a command's last word or byte can arrive -/

theorem commandDue_service_iff {cmd : Cmd} {args : List Word} {s : State} : commandDue .service cmd args s = true ↔
    s.inReset = false ∧ ∃ t, s.transaction = some t ∧ t.done = false ∧
      (args = [] ∧ t.words = [] ∨ args ≠ [] ∧ ∃ cw, t.words = cw :: args.dropLast ∧ commandByte cw = cmd.code) := by
  simp only [commandDue, serviceDue, Bool.and_eq_true, Bool.not_eq_true']
  cases s.transaction with
  | none => simp
  | some t =>
    cases args with
    | nil => simp
    | cons a rest => cases hw : t.words <;> simp [hw, and_comm]

theorem commandDue_energy_iff {cmd : Cmd} {args : List Word} {s : State} :
    commandDue .energy cmd args s = true ↔ s.inReset = false ∧ energyDue cmd args (flushLone s) = true := by
  simp [commandDue]

theorem energyDue_nil_iff {cmd : Cmd} {s : State} :
    energyDue cmd [] s = true ↔ ∃ n, s.bus = .write n ∧ s.assembly.cmd = none := by
  cases h : s.bus <;> simp [energyDue, h]

theorem energyDue_concat_iff {cmd : Cmd} {init : List Word} {l : Word} {s : State} :
    energyDue cmd (init ++ [l]) s = true ↔ ∃ n, s.bus = .write n ∧ s.assembly.cmd = some cmd.code ∧
      heldBytes s.assembly = ((init ++ [l]).flatMap bytesOf).dropLast ∧ ¬ (n = 0 ∧ l.extractLsb' 0 8 = 0x01) := by
  have hlast : ((init ++ [l]).flatMap bytesOf).getLast? = some (l.extractLsb' 0 8) := by
    simp [bytesOf]
  obtain ⟨b, bs, hbytes⟩ : ∃ b bs, (init ++ [l]).flatMap bytesOf = b :: bs := by
    refine List.exists_cons_of_ne_nil fun h => ?_
    rw [h] at hlast
    cases hlast
  rw [hbytes] at hlast ⊢
  cases h : s.bus with
  | idle | read => simp [energyDue, h]
  | write n =>
    have hcode : Cmd.status.code = 0x01 := rfl
    simp [energyDue, h, hbytes, hlast, hcode, and_assoc, imp_iff_not_or]

/-- The last byte of a command's last argument word: what is held of it is its command byte, the words before its last and
the three bytes before the byte. -/
theorem held_of_energyDue {cmd : Cmd} {init : List Word} {l : Word} {s : State} (hpart : s.assembly.part.length < 4)
    (h : energyDue cmd (init ++ [l]) s = true) : ∃ n, s.bus = .write n ∧ ¬ (n = 0 ∧ l.extractLsb' 0 8 = 0x01) ∧
      s.assembly.cmd = some cmd.code ∧ s.assembly.words = init ∧
      s.assembly.part = [l.extractLsb' 24 8, l.extractLsb' 16 8, l.extractLsb' 8 8] := by
  obtain ⟨n, hbus, hcmd, hheld, hopens⟩ := energyDue_concat_iff.1 h
  obtain ⟨hwords, hbytes⟩ := held_of_bytes hpart hheld
  exact ⟨n, hbus, hopens, hcmd, hwords, hbytes⟩

/-! ### Rows of commands -/

/-- The row of a command other than STATUS: where its last word or byte can arrive it runs. -/
theorem exec_commandRow_of_ne_status {cmd : Cmd} (hcmd : cmd ≠ .status) {args : List Word} (hargs : args.length = cmd.argWords)
    (p : Port) (s : State) : exec (commandRow cmd p args) s = .next (atPort p cmd args (runCommand cmd p args) s) := by
  match args with
  | [] =>
    cases cmd with
    | status => exact absurd rfl hcmd
    | _ => cases hargs <;> rfl
  | [_] => cases cmd <;> cases hargs <;> rfl
  | [_, _] =>
    cases cmd <;> cases hargs
    rfl
  | _ :: _ :: _ :: _ =>
    have hle : cmd.argWords ≤ 2 := by cases cmd <;> decide
    simp only [List.length_cons] at hargs
    omega

/-- STATUS where no byte waits and its command byte can arrive. -/
theorem exec_status {p : Port} {s : State} (hdue : commandDue p .status [] s = true)
    (hlone : p = .energy → s.assembly.lone = false) : exec (.status p) s = .next (doStatus p (commandTaken p s)) := by
  have hone : ¬ (p = .energy ∧ oneByteStatus s ∧ !s.inReset) := by
    rintro ⟨rfl, hone, -⟩
    obtain ⟨-, henergy⟩ := commandDue_energy_iff.1 hdue
    rw [flushLone_of_not_lone (hlone rfl)] at henergy
    obtain ⟨n, -, hcmd⟩ := energyDue_nil_iff.1 henergy
    simp [oneByteStatus, hlone rfl, hcmd] at hone
  refine congrArg Host.Outcome.next ?_
  rw [if_neg hone, atPort_of_due hdue]

/-- Where its last word or byte can arrive, a command's row runs it. -/
theorem exec_commandRow {cmd : Cmd} {args : List Word} (hargs : args.length = cmd.argWords) {p : Port} {s : State}
    (hdue : commandDue p cmd args s = true) (hlone : cmd = .status → p = .energy → s.assembly.lone = false) :
    exec (commandRow cmd p args) s = .next (runCommand cmd p args (commandTaken p s)) := by
  by_cases hcmd : cmd = .status
  · subst hcmd
    obtain rfl := List.length_eq_zero_iff.1 hargs
    exact exec_status hdue (hlone rfl)
  · rw [exec_commandRow_of_ne_status hcmd hargs, atPort_of_due hdue]

/-! ### Refusals at a port (R159, R163, R166) -/

/-- A command at a port with no right to it is refused whatever its argument words. -/
theorem runCommand_of_not_permitted {cmd : Cmd} {p : Port} (h : cmd.permitted p = false) (args : List Word) (s : State) :
    runCommand cmd p args s = reply p cmd.code .notPermitted [] s := by
  cases p with
  | service =>
    cases cmd with
    | setGrant | deposit | drain => rfl
    | _ => cases h
  | energy =>
    cases cmd with
    | probe | wake | retire | release | clearFault | test | abortTest | send => rfl
    | _ => cases h

/-- The commands the energy port has no right to (R166). -/
theorem energy_not_permitted : ∀ cmd ∈ [Cmd.probe, .wake, .retire, .release, .clearFault, .test, .abortTest, .send],
    cmd.permitted .energy = false ∧ cmd ≠ .status := by decide

/-- The commands the service port has no right to (R166). -/
theorem service_not_permitted : ∀ cmd ∈ [Cmd.setGrant, .deposit, .drain],
    cmd.permitted .service = false ∧ cmd ≠ .status := by decide

theorem exec_unknownCommand {p : Port} {code : Byte} {s : State} (h : unknownDue p code s = true) :
    exec (.unknownCommand p code) s = .next (reply p code .badArgument [] (commandTaken p s)) :=
  congrArg Host.Outcome.next (if_pos h)

/-! ### Words and bytes that complete a command -/

/-- The word that completes a command at the service port runs its row. -/
theorem serviceWord_of_due {cmd : Cmd} {args : List Word} {s : State} {w : Word} (hargs : args.length = cmd.argWords)
    (hdue : commandDue .service cmd args s = true) (hfirst : args = [] → commandByte w = cmd.code)
    (hlast : ∀ l, args.getLast? = some l → w = l) :
    serviceWord w s = runCommand cmd .service args (commandTaken .service s) := by
  obtain ⟨-, t, ht, hd, ⟨rfl, hw⟩ | ⟨hne, cw, hw, hcode⟩⟩ := commandDue_service_iff.1 hdue
  · have hzero : cmd.argWords = 0 := hargs.symm
    rw [serviceWord_of_first ht hd hw, ofCode_eq_some_iff.2 (hfirst rfl).symm, Option.elim_some, if_pos hzero]
  · have hlen : args.dropLast.length + 1 = cmd.argWords := by
      rw [← hargs, List.length_dropLast, Nat.sub_add_cancel (List.length_pos_iff.2 hne)]
    rw [serviceWord_of_argument ht hd hw (ofCode_eq_some_iff.2 hcode.symm), if_pos hlen,
      hlast _ (List.getLast?_eq_getLast_of_ne_nil hne), List.dropLast_append_getLast hne]

theorem energyByte_of_write {s : State} {n : Nat} (hbus : s.bus = .write n) (b : Byte) : energyByte b s =
    if (flushLone s).assembly.cmd.isNone then takeCommandByte b (countByte n (flushLone s))
    else if n = 0 ∧ b = 0x01 then
      { countByte n (flushLone s) with assembly := { (flushLone s).assembly with lone := true } }
    else joinByte b (countByte n (flushLone s)) := by
  simp only [energyByte, hbus]
  rfl

theorem exec_energyCommandByte {s : State} (hlive : s.inReset = false) {n : Nat} (hbus : s.bus = .write n)
    (hcmd : (flushLone s).assembly.cmd = none) (b : Byte) :
    exec (.energyCommandByte b) s = .next (takeCommandByte b (countByte n (flushLone s))) := by
  refine (whenLive_of_live hlive _).trans (congrArg _ ?_)
  rw [if_pos (by rw [hcmd]; rfl), energyByte_of_write hbus, if_pos (by rw [hcmd]; rfl)]

theorem exec_energyArgumentByte {s : State} (hlive : s.inReset = false) {code : Byte} (hcmd : s.assembly.cmd = some code)
    (b : Byte) : exec (.energyArgumentByte b) s = .next (energyByte b s) := by
  refine (whenLive_of_live hlive _).trans (congrArg _ ?_)
  rw [if_pos (by rw [hcmd]; rfl)]

/-- A command byte of a command with no argument words. -/
theorem takeCommandByte_of_run {cmd : Cmd} (hargs : cmd.argWords = 0) (s : State) :
    takeCommandByte cmd.code s = runCommand cmd .energy [] s := by
  simp only [takeCommandByte, ofCode_eq_some_iff.2 rfl, hargs, if_true]

/-- The byte that completes a command's last argument word runs the command. -/
theorem joinByte_of_due {cmd : Cmd} {init : List Word} {l : Word} {s : State} (hargs : (init ++ [l]).length = cmd.argWords)
    (hcmd : s.assembly.cmd = some cmd.code) (hwords : s.assembly.words = init)
    (hpart : s.assembly.part = [l.extractLsb' 24 8, l.extractLsb' 16 8, l.extractLsb' 8 8]) :
    joinByte (l.extractLsb' 0 8) s = runCommand cmd .energy (init ++ [l]) { s with assembly := .reset } := by
  rw [joinByte_of_part hcmd (ofCode_eq_some_iff.2 rfl) hpart, ← wordOfBytes_eq_append, wordOfBytes_bytes, hwords,
    if_pos hargs.ge]

/-- Settles O33: the command is held with all but its last word or byte, which then completes it. -/
theorem lastWordRunsItsRow : Obligations.LastWordRunsItsRow := by
  unfold Obligations.LastWordRunsItsRow
  refine ⟨rfl, fun code cmd => ofCode_eq_some_iff, fun w => rfl, fun s cmd args => ?_, fun s cmd args hlive hargs => ⟨?_, ?_⟩⟩
  · intro bytes
    refine ⟨commandDue_service_iff, fun hlone => ?_⟩
    rw [commandDue_energy_iff, flushLone_of_not_lone hlone]
    refine and_congr_right fun _ => ?_
    rcases List.eq_nil_or_concat args with rfl | ⟨init, l, rfl⟩
    · simp [energyDue_nil_iff]
    · have hbytes : bytes = List.flatMap bytesOf := rfl
      simp [energyDue_concat_iff, heldBytes, hbytes]
  · intro w hdue hfirst hlast
    have hstatus : cmd = .status → Port.service = .energy → s.assembly.lone = false := fun _ h => nomatch h
    rw [exec_serviceWordCompletion hlive, serviceWord_of_due hargs hdue hfirst hlast, exec_commandRow hargs hdue hstatus]
  · intro hlone hpart hdue
    obtain ⟨-, henergy⟩ := commandDue_energy_iff.1 hdue
    rw [flushLone_of_not_lone hlone] at henergy
    rw [exec_commandRow hargs hdue fun _ _ => hlone]
    refine ⟨?_, fun l hl => ?_⟩
    · rintro rfl hassembly
      obtain ⟨n, hbus, hcmd⟩ := energyDue_nil_iff.1 henergy
      have hflush := flushLone_of_not_lone hlone
      rw [exec_energyCommandByte hlive hbus (by rw [hflush, hcmd]), takeCommandByte_of_run hargs.symm, hflush,
        commandTaken_energy_of_reset hbus hassembly]
    · obtain ⟨init, rfl⟩ := List.getLast?_eq_some_iff.1 hl
      obtain ⟨n, hbus, hopens, hcmd, hwords, hbytes⟩ := held_of_energyDue hpart henergy
      rw [exec_energyArgumentByte hlive hcmd, energyByte_of_write hbus, flushLone_of_not_lone hlone, if_neg (by simp [hcmd]),
        if_neg hopens, joinByte_of_due (s := countByte n s) hargs hcmd hwords hbytes, commandTaken_energy_of_not_lone hlone hbus]
      rfl

/-- Settles O34: by the right to the command, and by the port a code that names none arrives at. -/
theorem refusedAtPort : Obligations.RefusedAtPort := by
  unfold Obligations.RefusedAtPort
  refine ⟨fun cmd args p s hargs hdue h => ?_, fun code s t hlive hcode ht hd hw => ?_,
    fun code s n hlive hcode hbus hassembly => ?_⟩
  · obtain ⟨hright, hstatus⟩ : cmd.permitted p = false ∧ cmd ≠ .status := by
      rcases h with ⟨rfl, hmem⟩ | ⟨rfl, hmem⟩
      · exact energy_not_permitted cmd hmem
      · exact service_not_permitted cmd hmem
    rw [exec_commandRow hargs hdue fun h0 => absurd h0 hstatus, runCommand_of_not_permitted hright]
  · have hdue : unknownDue .service code s = true := by simp [unknownDue, hcode, hlive, ht, hd, hw]
    refine ⟨exec_unknownCommand hdue, ?_⟩
    rintro w rfl
    rw [exec_serviceWordCompletion hlive, serviceWord_of_first ht hd hw, hcode]
    rfl
  · have hflush : flushLone s = s := flushLone_of_not_lone (by rw [hassembly])
    have hcmd : s.assembly.cmd = none := by rw [hassembly]
    have hdue : unknownDue .energy code s = true := by simp [unknownDue, hcode, hlive, hflush, energyDue_nil_iff, hbus, hcmd]
    refine ⟨exec_unknownCommand hdue, ?_⟩
    rw [exec_energyCommandByte hlive hbus (by rw [hflush, hcmd]), hflush, commandTaken_energy_of_reset hbus hassembly]
    simp only [takeCommandByte, hcode]
    rfl

end Sys2Proof.Machine
end

/-! ## Framing and reads at the energy port (R162 to R165) -/

section
namespace Sys2Proof.Machine

/-! ### Addressing and the end of a transaction (R162, R164) -/

theorem energyStop_of_not_lone {s : State} (h : s.assembly.lone = false) : energyStop s = { s with bus := .idle } := by
  unfold energyStop
  split
  · rw [if_neg (by simp [h])]
  · rfl
  · rfl

/-- An address byte is for this port where its seven high bits are the port's address. -/
theorem addressed_iff (b : Byte) (s : State) :
    b.extractLsb' 1 7 = energyAddress s ↔ b.toNat / 2 = 0x34 + 2 * s.strap1.toNat + s.strap0.toNat := by
  have hb := b.isLt
  have h1 := s.strap1.toNat_le
  have h0 := s.strap0.toNat_le
  rw [← BitVec.toNat_inj, energyAddress, BitVec.extractLsb'_toNat, BitVec.toNat_ofNat, Nat.shiftRight_eq_div_pow]
  omega

/-- The direction bit of an address byte. -/
theorem readBit_eq (b : Byte) : b.getLsbD 0 = decide (b.toNat % 2 = 1) := by
  rw [BitVec.getLsbD, Nat.testBit_zero]

theorem energyAddressed_eq (b : Byte) (s : State) : energyAddressed b s =
    if b.toNat / 2 = 0x34 + 2 * (energyStop s).strap1.toNat + (energyStop s).strap0.toNat then
      { energyStop s with bus := if b.toNat % 2 = 1 then .read else .write 0, ackOut := true }
    else { energyStop s with ackOut := false } := by
  simp only [energyAddressed, addressed_iff, readBit_eq, decide_eq_true_eq]

theorem exec_energyAddressByte {s : State} (h : s.inReset = false) (b : Byte) :
    exec (.energyAddressByte b) s = .next (energyAddressed b s) := whenLive_of_live h _

theorem exec_energyStopCondition {s : State} (h : s.inReset = false) : exec .energyStopCondition s = .next (energyStop s) :=
  whenLive_of_live h _

/-- A command byte of a command with argument words sets phase ARGUMENT. -/
theorem takeCommandByte_of_arguments {b : Byte} {cmd : Cmd} (hcode : Cmd.ofCode b = some cmd) (hargs : 0 < cmd.argWords)
    (s : State) : takeCommandByte b s = { s with assembly := { cmd := some b, words := [], part := [], lone := false } } := by
  simp only [takeCommandByte, hcode, if_neg hargs.ne']

/-- Settles O30: by the byte's place in the transaction and in the command. -/
theorem energyFraming : Obligations.EnergyFraming := by
  unfold Obligations.EnergyFraming
  intro s hlive hlone
  have hflush := flushLone_of_not_lone hlone
  refine ⟨fun b => ?_, ?_, fun n hbus => ?_⟩
  · intro address
    rw [exec_energyAddressByte hlive, energyAddressed_eq, energyStop_of_not_lone hlone]
    exact ⟨fun h => congrArg _ (if_pos h), fun h => congrArg _ (if_neg h)⟩
  · rw [exec_energyStopCondition hlive, energyStop_of_not_lone hlone]
  · intro taken
    refine ⟨fun b cmd hnone hcode hargs => ?_, fun b code hcmd hopens => ?_⟩
    · rw [exec_energyCommandByte hlive hbus (by rw [hflush, hnone]), takeCommandByte_of_arguments hcode hargs, hflush]
      rfl
    · have hjoin : exec (.energyArgumentByte b) s = .next (joinByte b taken) := by
        rw [exec_energyArgumentByte hlive hcmd, energyByte_of_write hbus, hflush, if_neg (by simp [hcmd]), if_neg hopens]
        rfl
      refine ⟨fun hpart => ?_, fun b1 b2 b3 cmd hpart hcode hwords => ?_⟩
      · rw [hjoin, joinByte_of_lt (s := taken) hcmd hpart]
      · rw [hjoin, joinByte_of_part (s := taken) hcmd hcode hpart, if_neg (by simpa using hwords)]

/-! ### Reads (R165) -/

theorem replyStatusWord_eq (r : Reply) : replyStatusWord r =
    BitVec.ofNat 32 (r.code.toNat * 2 ^ 24 + r.outcome.code * 2 ^ 16 + r.words.length % 256 * 2 ^ 8) := by
  have houtcome : r.outcome.code < 2 ^ 8 := by cases r.outcome <;> decide
  rw [replyStatusWord, wordOf, place_of_lt r.code.isLt, place_of_lt houtcome]
  simp [place, add_assoc]

/-- The status byte shows its five flags in bits 7 to 3, and 0 below them. -/
theorem statusByte_bits (reply held bytes feed line : Bool) :
    let b := BitVec.ofNat 8 (placeFlag 7 reply + placeFlag 6 held + placeFlag 5 bytes + placeFlag 4 feed + placeFlag 3 line)
    b.getLsbD 7 = reply ∧ b.getLsbD 6 = held ∧ b.getLsbD 5 = bytes ∧ b.getLsbD 4 = feed ∧ b.getLsbD 3 = line ∧
      b.extractLsb' 0 3 = 0 := by
  revert reply held bytes feed line
  decide

theorem exec_energyReadByte {s : State} (h : s.inReset = false) : exec .energyReadByte s = .next (energyReadByte s) :=
  whenLive_of_live h _

/-- Settles O32: with a reply pending, by the bytes left of it; with none, the flags of the status byte. -/
theorem energyReadByteReturnsReply : Obligations.EnergyReadByteReturnsReply := by
  unfold Obligations.EnergyReadByteReturnsReply
  refine ⟨fun r => rfl, replyStatusWord_eq, rfl, fun s hlive hbus => ⟨fun r hr => ?_, fun hnone => ?_⟩⟩
  · intro bytes
    have hbytes : replyBytes r = bytes := rfl
    simp only [exec_energyReadByte hlive, energyReadByte, hbus, hr, hbytes]
    exact ⟨fun h => by rw [if_pos h], fun h => by rw [if_neg (Nat.not_lt.2 h)]⟩
  · refine ⟨portStatusByte s, ?_, ?_⟩
    · simp only [exec_energyReadByte hlive, energyReadByte, hbus, hnone]
    · obtain ⟨hreply, hheld, hholds, hrest⟩ := statusByte_bits s.energy.reply.isSome s.assembly.cmd.isSome
        (assemblyHolds s.assembly) s.feedOn (eattn s)
      refine ⟨hreply.trans (by rw [hnone]; rfl), hheld, hholds.trans ?_, hrest⟩
      rw [assemblyHolds, Bool.not_and]

end Sys2Proof.Machine
end

/-! ## NOP and STATUS, and the table window (R167 to R169) -/

section
namespace Sys2Proof.Machine

/-! ### NOP, STATUS and the status word (R167, chapter 12.2) -/

theorem exec_nop {p : Port} {s : State} (h : commandDue p .nop [] s = true) :
    exec (.nop p) s = .next (doNop p (commandTaken p s)) := congrArg Host.Outcome.next (atPort_of_due h (doNop p))

/-- A field of a word as a number. -/
theorem toNat_extract (w : Word) (lo width : Nat) : (w.extractLsb' lo width).toNat = w.toNat / 2 ^ lo % 2 ^ width := by
  rw [BitVec.extractLsb'_toNat, Nat.shiftRight_eq_div_pow]

theorem extract_eq_zero_of_toNat {w : Word} {lo width : Nat} (h : w.toNat / 2 ^ lo % 2 ^ width = 0) :
    w.extractLsb' lo width = 0 :=
  BitVec.eq_of_toNat_eq ((toNat_extract w lo width).trans (h.trans (Nat.zero_mod _).symm))

theorem getLsbD_of_toNat {w : Word} {i : Nat} {b : Bool} (h : w.toNat / 2 ^ i % 2 = b.toNat) : w.getLsbD i = b :=
  flag_of_bits (by rw [bits_eq, Nat.add_sub_cancel_left]; exact h)

/-- Four causes as a number, LEVEL lowest. -/
theorem causeBits_eq (c : CauseSet) :
    causeBits c = c.level.toNat + c.loss.toNat * 2 + c.frame.toNat * 4 + c.voteLost.toNat * 8 := by
  simp only [causeBits, placeFlag_eq, pow_zero, mul_one, Nat.reducePow]

theorem causeBits_lt (c : CauseSet) : causeBits c < 2 ^ 4 := by
  have hlevel := c.level.toNat_le
  have hloss := c.loss.toNat_le
  have hframe := c.frame.toNat_le
  have hvote := c.voteLost.toNat_le
  rw [causeBits_eq]
  omega

/-- The status word as a number: with the queues in their capacities, its fields side by side. -/
theorem toNat_statusWord {s : State} {p : Port} (hedits : s.edits.length ≤ 16) (hqueue : (portOf s p).queue.length ≤ 48) :
    (statusWord s p).toNat = s.feedOn.toNat * 2 ^ 31 + (portOf s p).vote.toNat * 2 ^ 30 + s.edits.length * 2 ^ 16 +
      (portOf s p).queue.length * 2 ^ 8 + causeBits (portOf s p).mask * 2 ^ 4 + causeBits (causesOf (portOf s p)) := by
  have hfeed := s.feedOn.toNat_le
  have hvote := (portOf s p).vote.toNat_le
  have hmask := causeBits_lt (portOf s p).mask
  have hcauses := causeBits_lt (causesOf (portOf s p))
  have hword : statusWord s p = wordOf [s.feedOn.toNat * 2 ^ 31, (portOf s p).vote.toNat * 2 ^ 30, s.edits.length * 2 ^ 16,
      (portOf s p).queue.length * 2 ^ 8, causeBits (portOf s p).mask * 2 ^ 4, causeBits (causesOf (portOf s p))] := by
    rw [statusWord, placeFlag_eq, placeFlag_eq, place_of_lt (by omega), place_of_lt (by omega), place_of_lt hmask,
      place_of_lt hcauses, pow_zero, mul_one]
  have hsum (a b c d e f : Nat) : [a, b, c, d, e, f].sum = a + b + c + d + e + f := by
    simp only [List.sum_cons, List.sum_nil, add_assoc, add_zero]
  rw [hword, toNat_wordOf, hsum]
  rw [hsum]
  omega

/-- Settles O35: the reply of each, and the fields of the word. -/
theorem statusWordIsAnswered : Obligations.StatusWordIsAnswered := by
  unfold Obligations.StatusWordIsAnswered
  refine ⟨fun p s h => exec_nop h, fun p s h hlone => exec_status h hlone, fun p s hedits hqueue => ?_⟩
  intro ps w
  have hword : w.toNat = s.feedOn.toNat * 2 ^ 31 + ps.vote.toNat * 2 ^ 30 + s.edits.length * 2 ^ 16 +
    ps.queue.length * 2 ^ 8 + causeBits ps.mask * 2 ^ 4 + causeBits (causesOf ps) := toNat_statusWord hedits hqueue
  rw [causeBits_eq, causeBits_eq] at hword
  have hqueue' : ps.queue.length ≤ 48 := hqueue
  have hfeed := s.feedOn.toNat_le
  have hvote := ps.vote.toNat_le
  have hm0 := ps.mask.level.toNat_le
  have hm1 := ps.mask.loss.toNat_le
  have hm2 := ps.mask.frame.toNat_le
  have hm3 := ps.mask.voteLost.toNat_le
  have hc0 := (causesOf ps).level.toNat_le
  have hc1 := (causesOf ps).loss.toNat_le
  have hc2 := (causesOf ps).frame.toNat_le
  have hc3 := (causesOf ps).voteLost.toNat_le
  refine ⟨getLsbD_of_toNat ?_, getLsbD_of_toNat ?_, ?_, ?_, getLsbD_of_toNat ?_, getLsbD_of_toNat ?_, getLsbD_of_toNat ?_,
    getLsbD_of_toNat ?_, getLsbD_of_toNat (b := (causesOf ps).voteLost) ?_, getLsbD_of_toNat (b := (causesOf ps).frame) ?_,
    getLsbD_of_toNat (b := (causesOf ps).loss) ?_, getLsbD_of_toNat (b := (causesOf ps).level) ?_, extract_eq_zero_of_toNat ?_,
    extract_eq_zero_of_toNat ?_⟩
  all_goals
    simp only [toNat_extract, hword]
    omega

/-! ### SEEK and the wrap of the pointer (R168) -/

theorem exec_seek {p : Port} {arg : Word} {s : State} (h : commandDue p .seek [arg] s = true) :
    exec (.seek p arg) s = .next (doSeek p arg (commandTaken p s)) := congrArg Host.Outcome.next (atPort_of_due h (doSeek p arg))

/-- The ranges of SEEK are the tables and their records. -/
theorem seekRange_iff {n i : Nat} : (n = 0 ∧ i ≤ 31 ∨ n = 1 ∧ i ≤ 23 ∨ n = 2 ∧ i = 0 ∨ n = 3 ∧ i ≤ 31) ↔
    ∃ t, tableOf n = some t ∧ i < tableRecords t := by
  constructor
  · rintro (⟨rfl, hi⟩ | ⟨rfl, hi⟩ | ⟨rfl, rfl⟩ | ⟨rfl, hi⟩)
    · exact ⟨.roster, rfl, Nat.lt_succ_of_le hi⟩
    · exact ⟨.channel, rfl, Nat.lt_succ_of_le hi⟩
    · exact ⟨.account, rfl, Nat.one_pos⟩
    · exact ⟨.probeQueue, rfl, Nat.lt_succ_of_le hi⟩
  · rintro ⟨t, ht, hi⟩
    unfold tableOf at ht
    split at ht <;> cases ht <;> simp only [tableRecords] at hi <;> omega

theorem directionOf_of_le {n : Nat} (h : n ≤ 1) : directionOf n = some (if n = 0 then .up else .down) := by
  interval_cases n <;> rfl

theorem directionOf_of_gt {n : Nat} (h : 1 < n) : directionOf n = none := by
  unfold directionOf
  split
  case h_3 => rfl
  all_goals omega

theorem doSeek_of_range {arg : Word} {t : Table} {d : Direction} (ht : tableOf (bits 31 24 arg) = some t)
    (hd : directionOf (bits 15 8 arg) = some d) (hi : bits 23 16 arg < tableRecords t) (p : Port) (s : State) :
    doSeek p arg s = reply p 0x02 .done [] (modPort p (fun ps =>
      { ps with pointer := { table := t, index := bits 23 16 arg, dir := d, offset := 0 }, latch := none }) s) := by
  simp only [doSeek, ht, hd, if_pos hi]
  rfl

theorem doSeek_of_outside {arg : Word} (h : (¬ ∃ t, tableOf (bits 31 24 arg) = some t ∧ bits 23 16 arg < tableRecords t) ∨
    directionOf (bits 15 8 arg) = none) (p : Port) (s : State) : doSeek p arg s = reply p 0x02 .badArgument [] s := by
  unfold doSeek
  split
  · rename_i t d ht hd
    rcases h with h | h
    · rw [if_neg fun hi => h ⟨t, ht, hi⟩]
      rfl
    · rw [h] at hd
      cases hd
  · rfl

theorem stepIndex_up (t : Table) (i : Nat) : stepIndex t .up i = if i < tableRecords t - 1 then i + 1 else 0 :=
  if_congr Nat.lt_sub_iff_add_lt.symm rfl rfl

/-- Settles O36: by the ranges of the table, the record and the direction. -/
theorem seekSetsPointer : Obligations.SeekSetsPointer := by
  unfold Obligations.SeekSetsPointer
  refine ⟨fun p arg s hdue => ?_, fun i => ⟨stepIndex_up .roster i, rfl, stepIndex_up .channel i, rfl, rfl, rfl,
    stepIndex_up .probeQueue i, rfl⟩⟩
  intro u table index direction inRange
  rw [exec_seek hdue]
  refine ⟨fun hin hdir => congrArg _ ?_, fun hout => congrArg _ (doSeek_of_outside ?_ p u)⟩
  · obtain ⟨t, ht, hi⟩ := seekRange_iff.1 hin
    rw [doSeek_of_range ht (directionOf_of_le hdir) hi]
    clear_value table
    unfold tableOf at ht
    split at ht <;> cases ht <;> rfl
  · exact hout.imp (mt seekRange_iff.2) directionOf_of_gt

/-! ### READ and one word of it (R169) -/

theorem exec_read {p : Port} {arg : Word} {s : State} (h : commandDue p .read [arg] s = true) :
    exec (.read p arg) s = .next (doRead p arg (commandTaken p s)) := congrArg Host.Outcome.next (atPort_of_due h (doRead p arg))

theorem readWord_state_of_first {p : Port} {s : State} (h : (portOf s p).pointer.offset = 0) : (readWord p s).2 =
    modPort p (fun ps => { ps with
      latch := some (recordOf s (portOf s p).pointer.table (portOf s p).pointer.index)
      pointer := stepPointer (portOf s p).pointer })
      (if (portOf s p).pointer.table = .channel then { s with freeCount := s.freeCount + 1 } else s) := by
  by_cases ht : (portOf s p).pointer.table = .channel
  · cases p <;> simp_all [readWord, latchRecord, portOf, modPort]
  · cases p <;> simp_all [readWord, latchRecord, portOf, modPort]

theorem readWord_state_of_latched {p : Port} {s : State} (h : (portOf s p).pointer.offset ≠ 0) :
    (readWord p s).2 = modPort p (fun ps => { ps with pointer := stepPointer (portOf s p).pointer }) s := by
  simp only [readWord, latchRecord, if_neg h]
  cases p <;> rfl

/-- A word read moves its port's pointer and latch, and the count of free values. -/
theorem readWord_frame (p : Port) (s : State) : ∃ q latch n, (readWord p s).2 =
    modPort p (fun ps => { ps with pointer := q, latch := latch }) { s with freeCount := n } := by
  obtain ⟨n, h⟩ := readWord_eq p s
  refine ⟨stepPointer (portOf s p).pointer, if (portOf s p).pointer.offset = 0 then
    some (recordOf s (portOf s p).pointer.table (portOf s p).pointer.index) else (portOf s p).latch, n, h.trans ?_⟩
  cases p <;> rfl

theorem readWords_frame (p : Port) (n : Nat) (s : State) : ∃ q latch k, (readWords p n s).2 =
    modPort p (fun ps => { ps with pointer := q, latch := latch }) { s with freeCount := k } := by
  induction n generalizing s with
  | zero => exact ⟨(portOf s p).pointer, (portOf s p).latch, s.freeCount, by cases p <;> rfl⟩
  | succ n ih =>
    obtain ⟨q, latch, k, hword⟩ := readWord_frame p s
    obtain ⟨q', latch', k', hrest⟩ := ih (readWord p s).2
    refine ⟨q', latch', k', ?_⟩
    rw [readWords_succ, hrest, hword]
    cases p <;> rfl

/-- Settles O37: by the count; and each word by whether it is a record's first. -/
theorem readTakesWords : Obligations.ReadTakesWords := by
  unfold Obligations.ReadTakesWords
  refine ⟨fun p arg s hdue => ?_, fun p s => ?_⟩
  · intro u n
    rw [exec_read hdue]
    refine ⟨fun hpos hle => ⟨congrArg _ (if_pos ⟨hpos, hle⟩), readWords_length p n u, ?_⟩,
      fun hout => congrArg _ (if_neg fun hin => ?_)⟩
    · obtain ⟨q, latch, k, h⟩ := readWords_frame p n u
      rw [h]
      cases p <;> rfl
    · obtain ⟨hpos, hle⟩ : 1 ≤ n ∧ n ≤ 8 := hin
      omega
  · intro q next
    refine ⟨fun h => ?_, fun record h hlatch => ?_⟩
    · obtain ⟨hword, -⟩ := readWord_of_first h
      exact ⟨hword, readWord_state_of_first h⟩
    · obtain ⟨hword, -⟩ := readWord_of_latched h hlatch
      exact ⟨hword, readWord_state_of_latched h⟩

end Sys2Proof.Machine
end

/-! ## A STATUS code alone in a write in phase ARGUMENT (R163, R164)

`inCommandPhase n s`: the energy port back in phase COMMAND, with n bytes of a write taken. A command reads none of the
registers this writes, so it makes no odds whether the byte that follows a command is counted before it runs or after. -/

section
namespace Sys2Proof.Machine

/-! ### The bus and the byte assembly enter no command -/

/-- The energy port in phase COMMAND with nothing held, n bytes of a write taken and acknowledged. -/
def inCommandPhase (n : Nat) (s : State) : State := { s with bus := .write n, ackOut := true, assembly := .reset }

theorem reply_inCommandPhase (code : Byte) (o : ReplyCode) (ws : List Word) (n : Nat) (s : State) :
    reply .energy code o ws (inCommandPhase n s) = inCommandPhase n (reply .energy code o ws s) := rfl

theorem latchRecord_inCommandPhase (n : Nat) (s : State) :
    latchRecord .energy (inCommandPhase n s) = inCommandPhase n (latchRecord .energy s) := by
  simp only [latchRecord, apply_ite (inCommandPhase n)]
  rfl

theorem readWords_inCommandPhase (n k : Nat) (s : State) : readWords .energy k (inCommandPhase n s) =
    ((readWords .energy k s).1, inCommandPhase n (readWords .energy k s).2) := by
  induction k generalizing s with
  | zero => rfl
  | succ k ih =>
    have hword : readWord .energy (inCommandPhase n s) = ((readWord .energy s).1, inCommandPhase n (readWord .energy s).2) := by
      rw [readWord, latchRecord_inCommandPhase]
      rfl
    rw [readWords_succ, readWords_succ, hword, ih]

theorem doVote_inCommandPhase (n : Nat) (arg : Word) (s : State) :
    doVote .energy arg (inCommandPhase n s) = inCommandPhase n (doVote .energy arg s) := by
  unfold doVote done
  split
  · rw [← reply_inCommandPhase, apply_ite (inCommandPhase n)]
    rfl
  · rw [← reply_inCommandPhase, apply_ite (inCommandPhase n)]
    rfl
  · rfl

theorem doResetPort_inCommandPhase (n : Nat) (s : State) :
    doResetPort .energy (inCommandPhase n s) = inCommandPhase n (doResetPort .energy s) := by
  rw [doResetPort_eq, doResetPort_eq, apply_ite (inCommandPhase n)]
  rfl

theorem doPost_inCommandPhase (n : Nat) (w1 w2 : Word) (s : State) :
    doPost .energy w1 w2 (inCommandPhase n s) = inCommandPhase n (doPost .energy w1 w2 s) := by
  cases hk : editKindOf (bits 31 24 w1) with
  | none =>
    rw [doPost_of_unknown hk, doPost_of_unknown hk]
    rfl
  | some k =>
    rw [doPost_of_kind hk, doPost_of_kind hk, apply_ite (inCommandPhase n)]
    cases editOfWords k w1 w2 with
    | none => rfl
    | some content =>
      rw [Option.elim_some, Option.elim_some, apply_ite (inCommandPhase n)]
      rfl

theorem doSetGrant_inCommandPhase (n : Nat) (arg : Word) (s : State) :
    doSetGrant .energy arg (inCommandPhase n s) = inCommandPhase n (doSetGrant .energy arg s) := by
  rcases Nat.lt_or_ge 1000000 (bits 23 0 arg) with h | h
  · rw [doSetGrant_of_gt h, doSetGrant_of_gt h]
    rfl
  · rw [doSetGrant_of_le h, doSetGrant_of_le h]
    rfl

theorem doDeposit_inCommandPhase (n : Nat) (arg : Word) (s : State) :
    doDeposit .energy arg (inCommandPhase n s) = inCommandPhase n (doDeposit .energy arg s) := by
  rcases Nat.lt_or_ge 4000000 arg.toNat with h | h
  · rw [doDeposit_of_gt h, doDeposit_of_gt h]
    rfl
  · rw [doDeposit_of_le (s := s) h rfl, doDeposit_of_le (s := inCommandPhase n s) h rfl]
    rw [← reply_inCommandPhase, apply_ite (inCommandPhase n)]
    rfl

theorem runCommand_inCommandPhase (cmd : Cmd) (args : List Word) (n : Nat) (s : State) :
    runCommand cmd .energy args (inCommandPhase n s) = inCommandPhase n (runCommand cmd .energy args s) := by
  cases cmd with
  | probe | wake | retire | release | clearFault | test | abortTest | send =>
    rw [runCommand_of_not_permitted rfl, runCommand_of_not_permitted rfl]
    rfl
  | nop | status | ack | mask | cancelEdits | drain => rfl
  | seek =>
    simp only [runCommand, doSeek]
    split
    · split <;> rfl
    · rfl
  | read =>
    simp only [runCommand, doRead, readWords_inCommandPhase]
    split <;> rfl
  | take =>
    have hp : portOf (inCommandPhase n s) .energy = portOf s .energy := rfl
    simp only [runCommand, doTake, hp]
    cases (portOf s .energy).queue <;> rfl
  | watermark =>
    simp only [runCommand, doWatermark]
    split <;> rfl
  | vote => exact doVote_inCommandPhase n _ s
  | resetPort => exact doResetPort_inCommandPhase n s
  | post => exact doPost_inCommandPhase n _ _ s
  | setGrant => exact doSetGrant_inCommandPhase n _ s
  | deposit => exact doDeposit_inCommandPhase n _ s

/-! ### The last byte of a command, after the first byte of a write -/

theorem bytesOf_append (b1 b2 b3 b4 : Byte) : bytesOf (b1 ++ b2 ++ b3 ++ b4) = [b1, b2, b3, b4] := by
  have h1 := b1.isLt
  have h2 := b2.isLt
  have h3 := b3.isLt
  have h4 := b4.isLt
  rw [← wordOfBytes_eq_append, bytesOf]
  simp only [List.cons.injEq, and_true, ← BitVec.toNat_inj, toNat_extract, wordOfBytes, BitVec.toNat_ofNat]
  omega

/-- The row of a command whose last byte is not the first of its write: that byte counted, phase COMMAND, the command. -/
theorem exec_commandRow_of_held {cmd : Cmd} {code b1 b2 b3 b4 : Byte} {a : Assembly} {s : State} {n : Nat}
    (hlive : s.inReset = false) (hbus : s.bus = .write (n + 1)) (hflush : flushLone s = { s with assembly := a })
    (hcmd : a.cmd = some code) (hcode : Cmd.ofCode code = some cmd) (hpart : a.part = [b1, b2, b3])
    (hargs : (a.words ++ [b1 ++ b2 ++ b3 ++ b4]).length = cmd.argWords) :
    exec (commandRow cmd .energy (a.words ++ [b1 ++ b2 ++ b3 ++ b4])) s =
      .next (runCommand cmd .energy (a.words ++ [b1 ++ b2 ++ b3 ++ b4]) (inCommandPhase (n + 2) s)) := by
  have hdue : commandDue .energy cmd (a.words ++ [b1 ++ b2 ++ b3 ++ b4]) s = true := by
    rw [commandDue_energy_iff, hflush, energyDue_concat_iff]
    refine ⟨hlive, n + 1, hbus, by rw [hcmd, ofCode_eq_some_iff.1 hcode], ?_, fun h => Nat.succ_ne_zero n h.1⟩
    rw [List.flatMap_append, List.flatMap_singleton, bytesOf_append, List.dropLast_append_of_ne_nil (List.cons_ne_nil _ _),
      heldBytes, hpart]
    rfl
  have hstatus : cmd = .status → Port.energy = .energy → s.assembly.lone = false := by
    rintro rfl
    simp [Cmd.argWords] at hargs
  rw [exec_commandRow hargs hdue hstatus, commandTaken_energy hbus hflush]
  rfl

/-! ### The byte that waits -/

/-- The STATUS code taken as the first byte of a write in phase ARGUMENT: it waits for the write to go on or to end. -/
def loneWaits (s : State) : State := { countByte 0 s with assembly := { s.assembly with lone := true } }

theorem energyByte_status {s : State} (hlone : s.assembly.lone = false) {code : Byte} (hcmd : s.assembly.cmd = some code)
    (hbus : s.bus = .write 0) : energyByte 0x01 s = loneWaits s := by
  rw [energyByte_of_write hbus, flushLone_of_not_lone hlone, if_neg (by simp [hcmd]), if_pos ⟨rfl, rfl⟩]
  rfl

/-- The write ends: STATUS executes on an empty assembly. -/
theorem energyStop_loneWaits (s : State) : energyStop (loneWaits s) =
    { reply .energy 0x01 .done [statusWord (inCommandPhase 1 s) .energy] (inCommandPhase 1 s) with bus := .idle } := rfl

theorem exec_status_of_oneByte {s : State} (hlive : s.inReset = false) (h : oneByteStatus s = true) :
    exec (.status .energy) s = .next (statusWrite s) :=
  congrArg Host.Outcome.next (if_pos ⟨rfl, h, by rw [hlive]; rfl⟩)

/-- The row STATUS is that write, whether its byte has been taken or not. -/
theorem exec_status_lone {s : State} (hlive : s.inReset = false) (hlone : s.assembly.lone = false) {code : Byte}
    (hcmd : s.assembly.cmd = some code) (hbus : s.bus = .write 0) :
    exec (.status .energy) (loneWaits s) = .next (energyStop (loneWaits s)) ∧
      exec (.status .energy) s = .next (energyStop (loneWaits s)) := by
  refine ⟨exec_status_of_oneByte hlive rfl, ?_⟩
  have hone : oneByteStatus s = true := by simp [oneByteStatus, hcmd, hbus]
  have hbyte : energyByte Cmd.status.code s = loneWaits s := energyByte_status hlone hcmd hbus
  rw [exec_status_of_oneByte hlive hone, statusWrite, if_neg (by simp [hlone]), hbyte]

/-- The write goes on: the byte that waits joins the word in progress. -/
theorem flushLone_loneWaits {s : State} (hlone : s.assembly.lone = false) :
    flushLone (loneWaits s) = joinByte 0x01 (countByte 0 s) := by
  have hassembly : { s.assembly with lone := false } = s.assembly := by rw [← hlone]
  refine (flushLone_of_lone rfl).trans (congrArg (joinByte 0x01) ?_)
  exact congrArg (fun a => { countByte 0 s with assembly := a }) hassembly

/-- Then the byte that follows joins its word too, where the first did not complete the command. -/
theorem exec_energyArgumentByte_of_open {s : State} {a : Assembly} {code : Byte} (hlive : s.inReset = false)
    (hcmd : s.assembly.cmd = some code) (hflush : flushLone (loneWaits s) = { countByte 0 s with assembly := a })
    (ha : a.cmd = some code) (b : Byte) :
    exec (.energyArgumentByte b) (loneWaits s) = .next (joinByte b { countByte 1 s with assembly := a }) := by
  rw [exec_energyArgumentByte (s := loneWaits s) hlive hcmd, energyByte_of_write (s := loneWaits s) rfl, hflush,
    if_neg (by simp [ha]), if_neg (by simp)]
  rfl

/-- With less than three bytes held, the byte that waited joins them. -/
theorem flushLone_loneWaits_of_lt {s : State} {code : Byte} (hlone : s.assembly.lone = false)
    (hcmd : s.assembly.cmd = some code) (hpart : s.assembly.part.length < 3) : flushLone (loneWaits s) =
      { countByte 0 s with assembly := { s.assembly with part := s.assembly.part ++ [0x01] } } := by
  rw [flushLone_loneWaits hlone, joinByte_of_lt (s := countByte 0 s) hcmd hpart]
  rfl

/-- With three bytes held, the byte that waited completes the word: where it is the last, the command runs. -/
theorem flushLone_loneWaits_of_last {s : State} {cmd : Cmd} {code b1 b2 b3 : Byte} (hlone : s.assembly.lone = false)
    (hcmd : s.assembly.cmd = some code) (hcode : Cmd.ofCode code = some cmd) (hpart : s.assembly.part = [b1, b2, b3])
    (hargs : (s.assembly.words ++ [b1 ++ b2 ++ b3 ++ (0x01 : Byte)]).length = cmd.argWords) : flushLone (loneWaits s) =
      inCommandPhase 1 (runCommand cmd .energy (s.assembly.words ++ [b1 ++ b2 ++ b3 ++ (0x01 : Byte)]) s) := by
  rw [flushLone_loneWaits hlone, joinByte_of_part (s := countByte 0 s) hcmd hcode hpart, ← runCommand_inCommandPhase]
  exact if_pos hargs.ge

theorem commandTaken_energy_of_inCommandPhase {s t : State} {n : Nat} (h : flushLone s = inCommandPhase n t) :
    commandTaken .energy s = inCommandPhase (n + 1) t := by
  simp only [commandTaken, h]
  rfl

/-- Then the byte that follows is a command byte, by either row. -/
theorem exec_energyBytes_of_ran {s t : State} {code : Byte} (hlive : s.inReset = false) (hcmd : s.assembly.cmd = some code)
    (hflush : flushLone (loneWaits s) = inCommandPhase 1 t) (hlive' : t.inReset = false) (b : Byte) :
    exec (.energyArgumentByte b) (loneWaits s) = exec (.energyCommandByte b) (inCommandPhase 1 t) ∧
      exec (.energyCommandByte b) (loneWaits s) = exec (.energyCommandByte b) (inCommandPhase 1 t) := by
  have hphase : exec (.energyCommandByte b) (inCommandPhase 1 t) = .next (takeCommandByte b (inCommandPhase 2 t)) :=
    exec_energyCommandByte (s := inCommandPhase 1 t) hlive' rfl rfl b
  rw [hphase]
  constructor
  · rw [exec_energyArgumentByte (s := loneWaits s) hlive hcmd, energyByte_of_write (s := loneWaits s) rfl, hflush]
    rfl
  · rw [exec_energyCommandByte (s := loneWaits s) hlive rfl (by rw [hflush]; rfl), hflush]
    rfl

theorem runCommand_inReset (cmd : Cmd) (p : Port) (args : List Word) (s : State) :
    (runCommand cmd p args s).inReset = s.inReset := congrArg Held.inReset (keeps_runCommand cmd p args s).held

/-- Settles O31: the write ends, or it goes on; then by how much of a word is held, and by whether the word is the last. -/
theorem loneStatusFreesAssembly : Obligations.LoneStatusFreesAssembly := by
  unfold Obligations.LoneStatusFreesAssembly
  intro s code hlive hlone hcmd hbus waits freed answer joined
  have hwaits : waits = loneWaits s := rfl
  have hstop : energyStop (loneWaits s) = answer := energyStop_loneWaits s
  have hlive' : (loneWaits s).inReset = false := hlive
  obtain ⟨hrow, hrow'⟩ := exec_status_lone hlive hlone hcmd hbus
  rw [hwaits]
  refine ⟨?_, ?_, hrow, hrow', fun b => ?_, fun b hpart => ?_, fun b b1 b2 cmd hpart hcode => ?_,
    fun b b1 b2 b3 cmd hpart hcode => ?_⟩
  · rw [exec_energyArgumentByte hlive hcmd, energyByte_status hlone hcmd hbus]
  · rw [exec_energyStopCondition hlive', hstop]
  · rw [exec_energyAddressByte hlive', exec_energyAddressByte (s := answer) hlive, energyAddressed_eq, energyAddressed_eq, hstop,
      energyStop_of_not_lone (s := answer) rfl]
  · have hflush := flushLone_loneWaits_of_lt hlone hcmd (Nat.lt_succ_of_lt hpart)
    have hlen : (s.assembly.part ++ [0x01]).length < 3 := by rw [List.length_append]; exact Nat.succ_lt_succ hpart
    rw [exec_energyArgumentByte_of_open hlive hcmd hflush hcmd,
      joinByte_of_lt (s := { countByte 1 s with assembly := { s.assembly with part := s.assembly.part ++ [0x01] } }) hcmd hlen]
    simp only [List.append_assoc]
    rfl
  · intro words
    have hflush := flushLone_loneWaits_of_lt hlone hcmd (by rw [hpart]; exact Nat.lt_succ_self 2)
    have hpart' : s.assembly.part ++ [0x01] = [b1, b2, 0x01] := by rw [hpart]; rfl
    have hjoin := exec_energyArgumentByte_of_open hlive hcmd hflush hcmd b
    rw [joinByte_of_part (s := { countByte 1 s with assembly := { s.assembly with part := s.assembly.part ++ [0x01] } }) hcmd
      hcode hpart'] at hjoin
    refine ⟨fun hlt => ?_, fun hlast => ?_⟩
    · rw [hjoin, if_neg (Nat.not_le.2 hlt)]
      rfl
    · rw [hjoin, if_pos hlast.ge]
      exact (exec_commandRow_of_held (s := loneWaits s) hlive rfl hflush hcmd hcode hpart' hlast).symm
  · intro words
    refine ⟨fun hlt => ?_, fun hlast => ?_⟩
    · have hflush : flushLone (loneWaits s) =
          { countByte 0 s with assembly := { s.assembly with words := words, part := [] } } := by
        rw [flushLone_loneWaits hlone, joinByte_of_part (s := countByte 0 s) hcmd hcode hpart]
        exact if_neg (Nat.not_le.2 hlt)
      rw [exec_energyArgumentByte_of_open hlive hcmd hflush hcmd, joinByte_of_lt
        (s := { countByte 1 s with assembly := { s.assembly with words := words, part := [] } }) hcmd (Nat.succ_pos 2)]
      rfl
    · have hflush := flushLone_loneWaits_of_last hlone hcmd hcode hpart hlast
      have hran := runCommand_inReset cmd .energy words s
      obtain ⟨hargument, hcommand⟩ := exec_energyBytes_of_ran hlive hcmd hflush (hran.trans hlive) b
      refine ⟨inCommandPhase 2 (runCommand cmd .energy words s), ?_, ?_, hargument, hcommand⟩
      · rw [← runCommand_inCommandPhase]
        have hopen : flushLone (countByte 0 s) = { countByte 0 s with assembly := s.assembly } := flushLone_of_not_lone hlone
        exact exec_commandRow_of_held (s := countByte 0 s) (n := 0) hlive rfl hopen hcmd hcode hpart hlast
      · exact commandTaken_energy_of_inCommandPhase hflush

end Sys2Proof.Machine
end

/-! ## Report records, causes and notification lines (R175 to R178, chapter 12.3) -/

section
namespace Sys2Proof.Machine

/-! ### TAKE and the words of a record -/

theorem exec_take {p : Port} {s : State} (h : commandDue p .take [] s = true) :
    exec (.take p) s = .next (doTake p (commandTaken p s)) := congrArg Host.Outcome.next (atPort_of_due h (doTake p))

theorem doTake_of_cons {p : Port} {s : State} {r : Report} {rest : List Report} (h : (portOf s p).queue = r :: rest) :
    doTake p s = reply p 0x04 .done (reportWords r) (modPort p (fun ps => { ps with queue := rest }) s) := by
  simp only [doTake, h]
  rfl

theorem doTake_of_nil {p : Port} {s : State} (h : (portOf s p).queue = []) : doTake p s = reply p 0x04 .empty [] s := by
  simp only [doTake, h]
  rfl

/-- A status change with its prior values known: bit 2, the mark of their absence, adds nothing to word 1. -/
theorem bodyWords_statusChange_some (f : StatusFields) (u : Bool) (al : Nat) : bodyWords (.statusChange f (some (u, al))) =
    [wordOf (statusBits f ++ [placeFlag 1 u]), wordOf [place 3 0 al]] := by
  have hmark : placeFlag 2 (some (u, al)).isNone = 0 := rfl
  simp only [bodyWords, hmark, wordOf, List.sum_append, List.sum_cons, zero_add]

/-- With none known, bit 2 is set and the prior values are sent as 0. -/
theorem bodyWords_statusChange_none (f : StatusFields) : bodyWords (.statusChange f none) =
    [wordOf (statusBits f ++ [placeFlag 2 true]), 0] := rfl

/-- Settles O39: by whether the queue has an oldest record; then each record kind by its fields. -/
theorem takeRemovesOldest : Obligations.TakeRemovesOldest := by
  unfold Obligations.TakeRemovesOldest
  intro fld bit word chan status
  refine ⟨fun p s hdue => ?_, fun r => ?_, fun _ _ _ _ _ => rfl, fun _ _ => ⟨rfl, rfl⟩, fun _ _ _ => rfl, fun _ => rfl,
    fun _ _ => ⟨rfl, rfl⟩, fun _ _ _ => rfl, fun _ _ => rfl, fun _ _ _ partner => ?_, fun _ _ _ fields => ?_,
    bodyWords_statusChange_some, bodyWords_statusChange_none, fun _ _ _ _ _ _ _ _ _ => rfl, fun _ partner _ _ => ?_,
    fun _ _ _ _ => rfl, rfl, rfl, rfl, rfl, rfl⟩
  · intro u
    rw [exec_take hdue]
    exact ⟨fun r rest h => congrArg _ (doTake_of_cons h), fun h => congrArg _ (doTake_of_nil h)⟩
  · obtain ⟨frame, slot, afterLoss, c, body⟩ := r
    cases c <;> cases body <;> rfl
  · cases partner <;> rfl
  · cases fields <;> rfl
  · cases partner <;> rfl

/-! ### ACK, MASK and WATERMARK -/

theorem exec_ack {p : Port} {arg : Word} {s : State} (h : commandDue p .ack [arg] s = true) :
    exec (.ack p arg) s = .next (doAck p arg (commandTaken p s)) := congrArg Host.Outcome.next (atPort_of_due h (doAck p arg))

theorem exec_mask {p : Port} {arg : Word} {s : State} (h : commandDue p .mask [arg] s = true) :
    exec (.mask p arg) s = .next (doMask p arg (commandTaken p s)) := congrArg Host.Outcome.next (atPort_of_due h (doMask p arg))

theorem exec_watermark {p : Port} {arg : Word} {s : State} (h : commandDue p .watermark [arg] s = true) :
    exec (.watermark p arg) s = .next (doWatermark p arg (commandTaken p s)) :=
  congrArg Host.Outcome.next (atPort_of_due h (doWatermark p arg))

theorem doWatermark_of_range {p : Port} {arg : Word} (hpos : 1 ≤ bits 7 0 arg) (hmost : bits 7 0 arg ≤ queueCapacity p)
    (s : State) : doWatermark p arg s =
      reply p 0x07 .done [] (modPort p (fun ps => { ps with watermark := bits 7 0 arg }) s) := if_pos ⟨hpos, hmost⟩

theorem doWatermark_of_outside {p : Port} {arg : Word} (h : bits 7 0 arg = 0 ∨ queueCapacity p < bits 7 0 arg) (s : State) :
    doWatermark p arg s = reply p 0x07 .badArgument [] s := if_neg (by omega)

/-- Settles O40: ACK and MASK by the bits of their word, WATERMARK by its range, a line by its causes and mask. -/
theorem causesAndLines : Obligations.CausesAndLines := by
  unfold Obligations.CausesAndLines
  refine ⟨fun p arg s hdue => exec_ack hdue, fun p arg s hdue => exec_mask hdue, fun p arg s hdue => ?_, fun s => ⟨rfl, rfl⟩⟩
  intro n most
  have hmost : queueCapacity p = most := by cases p <;> rfl
  rw [exec_watermark hdue]
  exact ⟨fun hpos hle => congrArg _ (doWatermark_of_range hpos (hmost ▸ hle) _),
    fun hout => congrArg _ (doWatermark_of_outside (hmost ▸ hout) _)⟩

end Sys2Proof.Machine
end

/-! ## The commands that wait: no command touches them, and none ends a run

No operation of the model writes the queue of waiting commands. Said once for each operation, as a rewriting rule, so that a
command's own rule is the rules of the operations it is made of. -/

section
namespace Sys2Proof.Machine

/-! ### Records, replies and the probe engine -/

/-- An operation that acts on a condition is asked on both sides of it. -/
@[simp] theorem ite_pending (q : Prop) [Decidable q] (t u : State) :
    (if q then t else u).pending = if q then t.pending else u.pending := apply_ite State.pending q t u

@[simp] theorem reportChan_pending (c : Chan) (b : ReportBody) (s : State) : (reportChan c b s).pending = s.pending :=
  report_pending ..

@[simp] theorem reportProbe_pending (r : ProbeRequest) (o : ProbeOutcome) (v : Option Nat) (s : State) :
    (reportProbe r o v s).pending = s.pending := report_pending ..

@[simp] theorem done_pending (p : Port) (cmd : Cmd) (ws : List Word) (s : State) : (done p cmd ws s).pending = s.pending :=
  reply_pending ..

@[simp] theorem refuse_pending (p : Port) (cmd : Cmd) (o : ReplyCode) (s : State) : (refuse p cmd o s).pending = s.pending :=
  reply_pending ..

@[simp] theorem doneChan_pending (p : Port) (cmd : Cmd) (c : Chan) (s : State) : (doneChan p cmd c s).pending = s.pending :=
  done_pending ..

@[simp] theorem look_pending (s : State) : (look s).pending = s.pending := by
  obtain ⟨q, pr, w, sv, h⟩ := look_frame s
  rw [h]

@[simp] theorem appendProbe_pending (r : ProbeRequest) (s : State) : (appendProbe r s).pending = s.pending := look_pending _

@[simp] theorem cancelProbe_pending (c : Chan) (s : State) : (cancelProbe c s).pending = s.pending := by
  obtain ⟨q, pr, w, sv, h⟩ := cancelProbe_frame c s
  rw [h]

/-! ### Departures and entries to the unpowered states -/

@[simp] theorem depart_pending (c : Chan) (s : State) : (depart c s).pending = s.pending := by
  rw [depart_eq, modChan_pending]

@[simp] theorem endTest_pending (c : Chan) (o : TestOutcome) (s : State) : (endTest c o s).pending = s.pending := by
  unfold endTest
  split
  · simp
  · rfl

@[simp] theorem enterDark_pending (c : Chan) (cause : StateCause) (own : Option ReportBody) (o : TestOutcome) (s : State) :
    (enterDark c cause own o s).pending = s.pending := by
  obtain ⟨x, q, pr, w, sv, h⟩ := enterDark_frame c cause own o s
  rw [h, setChan_pending]

@[simp] theorem enterFaulted_pending (c : Chan) (cause : StateCause) (partner : Option Chan) (s : State) :
    (enterFaulted c cause partner s).pending = s.pending := by
  obtain ⟨x, sv, h⟩ := enterFaulted_frame c cause partner s
  rw [h, setChan_pending]

@[simp] theorem enterRetired_pending (c : Chan) (s : State) : (enterRetired c s).pending = s.pending := by
  obtain ⟨x, sv, h⟩ := enterRetired_frame c s
  rw [h, setChan_pending]

/-! ### Outcomes of exchanges and the line exchange units -/

@[simp] theorem missAction_pending (c : Chan) (s : State) : (missAction c s).pending = s.pending := by
  have hattempt : (countAttempt c s).pending = s.pending := by simp [countAttempt]
  have hmiss : (countMiss c s).pending = s.pending := by simp [countMiss, goSilent]
  unfold missAction
  cases (chanAt s c).life with
  | waking => exact hattempt
  | fed | resuming => exact hmiss
  | dark | testing | faulted | retired => rfl

@[simp] theorem settleMailbox_pending (c : Chan) (o : MailOutcome) (m : Mailbox) (n : Nat) (f : Option StatusFields)
    (s : State) : (settleMailbox c o m n f s).pending = s.pending := by simp [settleMailbox]

@[simp] theorem refuseTest_pending (c : Chan) (a : Answer) (s : State) : (refuseTest c a s).pending = s.pending := by
  unfold refuseTest
  split <;> simp

@[simp] theorem resultAnswer_pending (c : Chan) (a : Answer) (s : State) : (resultAnswer c a s).pending = s.pending := by
  unfold resultAnswer
  split <;> simp

@[simp] theorem fedAnswer_pending (c : Chan) (e : Exchange) (a : Answer) (s : State) :
    (fedAnswer c e a s).pending = s.pending := by
  unfold fedAnswer
  cases e.cmd with
  | keep | wake | resultQuery => exact modChan_pending ..
  | query | aux | doze | beginTest => simp

@[simp] theorem validAction_pending (c : Chan) (e : Exchange) (a : Answer) (s : State) :
    (validAction c e a s).pending = s.pending := by
  unfold validAction
  cases (chanAt s c).life with
  | waking => simp [helloAnswer]
  | fed => exact fedAnswer_pending ..
  | resuming => exact resultAnswer_pending ..
  | dark | testing | faulted | retired => rfl

@[simp] theorem reportChange_pending (c : Chan) (a : Answer) (frame : Nat) (old : Option StatusRecord) (s : State) :
    (reportChange c a frame old s).pending = s.pending := by simp [reportChange]

@[simp] theorem exchangeOutcome_pending (c : Chan) (e : Exchange) (o : ExchangeOutcome) (answer : Option Answer) (s : State) :
    (exchangeOutcome c e o answer s).pending = s.pending := by
  unfold exchangeOutcome
  split <;> simp [refreshStatus]

theorem exchangeStart_pending (c : Chan) (s : State) : (exchangeStart c s).pending = s.pending := by
  unfold exchangeStart
  simp only
  split
  · simp
  · rfl

theorem downlinkEnd_pending (c : Chan) (baseline : Nat) (s : State) : (downlinkEnd c baseline s).pending = s.pending := by
  unfold downlinkEnd
  split
  · simp [setExchange]
  · rfl

theorem answerStart_pending (c : Chan) (instant : Fin 1001) (rise : Rise) (s : State) :
    (answerStart c instant rise s).pending = s.pending := by
  unfold answerStart
  simp only
  split
  · simp [setExchange]
  · rfl

theorem windowExpiry_pending (c : Chan) (s : State) : (windowExpiry c s).pending = s.pending := by
  unfold windowExpiry
  split
  · simp
  · rfl

theorem uplinkEnd_pending (c : Chan) (average : Nat) (s : State) : (uplinkEnd c average s).pending = s.pending := by
  unfold uplinkEnd
  split
  · simp
  · rfl

/-! ### The feed switches -/

@[simp] theorem modSwitch_pending (c : Chan) (f : FeedSwitch → FeedSwitch) (s : State) :
    (modSwitch c f s).pending = s.pending := modChan_pending ..

@[simp] theorem faultFromSwitch_pending (c : Chan) (cause : StateCause) (s : State) :
    (faultFromSwitch c cause s).pending = s.pending := by simp [faultFromSwitch]

theorem openLoadLost_pending (c : Chan) (s : State) : (openLoadLost c s).pending = s.pending := by
  simp [openLoadLost, goOpenLoad]

theorem switchOnComplete_pending (c : Chan) (s : State) : (switchOnComplete c s).pending = s.pending := by
  unfold switchOnComplete
  split
  · simp
  · rfl

theorem rampEnd_pending (c : Chan) (s : State) : (rampEnd c s).pending = s.pending := by
  unfold rampEnd
  simp only
  split
  · simp
  · rfl

theorem chopPeriodStart_pending (c : Chan) (s : State) : (chopPeriodStart c s).pending = s.pending := by
  unfold chopPeriodStart
  simp only
  split
  · simp
  · rfl

theorem tripAssert_pending (c : Chan) (s : State) : (tripAssert c s).pending = s.pending := by
  unfold tripAssert
  simp only
  split
  · simp
  · rfl

theorem overcurrentAssert_pending (c : Chan) (s : State) : (overcurrentAssert c s).pending = s.pending := by
  unfold overcurrentAssert
  simp only
  split
  · simp
  · rfl

theorem levelCrossing_pending (c : Chan) (current : Nat) (instant : Fin 1001) (s : State) :
    (levelCrossing c current instant s).pending = s.pending := by simp [levelCrossing]

/-! ### The ends of probes -/

@[simp] theorem actLine_pending (c : Chan) (o : ProbeOutcome) (s : State) : (actLine c o s).pending = s.pending := by
  cases o with
  | short | foreign | signature | openLine => simp [actLine]
  | clear | crossed | cancelled | notQueued => rfl

@[simp] theorem crossChannel_pending (c partner : Chan) (s : State) : (crossChannel c partner s).pending = s.pending := by
  simp [crossChannel]

@[simp] theorem actPair_pending (c partner : Chan) (crossed : Bool) (s : State) :
    (actPair c partner crossed s).pending = s.pending := by simp [actPair]

theorem probeEndLine_pending (reading : Nat) (s : State) : (probeEndLine reading s).pending = s.pending := by
  unfold probeEndLine
  split
  · simp
  · rfl

theorem probeEndPair_pending (reading : Nat) (s : State) : (probeEndPair reading s).pending = s.pending := by
  unfold probeEndPair
  split
  · simp
  · rfl

/-! ### The steps of the timebase -/

theorem sampleEvent_pending (bus : Nat) (readings : Vector Reading 24) (s : State) :
    (sampleEvent bus readings s).pending = s.pending := by simp [sampleEvent]

theorem slotEnd_pending (s : State) : (slotEnd s).pending = s.pending := by
  obtain ⟨cs, en, fr, rp, ta, h, -⟩ := slotEnd_frame s
  rw [h]

theorem frameOpening_pending (s : State) : (frameOpening s).pending = s.pending := by
  obtain ⟨ro, la, gl, st, df, fl, al, cs, sv, en, hedited⟩ := applyEdit_foldl_frame s.edits (advanceFrame s)
  have hkept : (editedFrame s).pending = s.pending := (congrArg State.pending hedited :)
  rw [frameOpening_frame, hkept]

@[simp] theorem beginSlot_pending (s : State) : (beginSlot s).pending = s.pending := by
  obtain ⟨low, n, en, hbase⟩ := slotBase_eq s
  have hadmitted : (slotAdmitted s).pending = s.pending := by rw [slotAdmitted_frame, hbase]
  simp [beginSlot_eq, hadmitted]

/-! ### Commands of the ports -/

theorem doTake_pending (p : Port) (s : State) : (doTake p s).pending = s.pending := by
  unfold doTake
  split <;> simp

theorem doSeek_pending (p : Port) (arg : Word) (s : State) : (doSeek p arg s).pending = s.pending := by
  unfold doSeek
  split <;> simp

theorem doRead_pending (p : Port) (arg : Word) (s : State) : (doRead p arg s).pending = s.pending := by
  obtain ⟨q, latch, k, h⟩ := readWords_frame p (bits 7 0 arg) s
  simp [doRead, h]

@[simp] theorem feedOn_pending (changer : Port) (s : State) : (feedOn changer s).pending = s.pending := by
  simp [feedOn, reportFeedState]

@[simp] theorem feedOff_pending (changer : Port) (portReset : Bool) (s : State) :
    (feedOff changer portReset s).pending = s.pending := by simp [feedOff, reportFeedState]

theorem doVote_pending (p : Port) (arg : Word) (s : State) : (doVote p arg s).pending = s.pending := by
  unfold doVote
  split <;> simp [setVote]

theorem doResetPort_pending (p : Port) (s : State) : (doResetPort p s).pending = s.pending := by
  have hcleared : (portCleared p s).pending = s.pending := by cases p <;> rfl
  simp [doResetPort_eq, hcleared]

theorem doPost_pending (p : Port) (w1 w2 : Word) (s : State) : (doPost p w1 w2 s).pending = s.pending := by
  have happend : ∀ content, (appendEdit p content s).pending = s.pending := fun _ => by simp [appendEdit]
  unfold doPost
  split
  · simp
  · split
    · simp
    · split <;> simp [happend]

/-- A channel command that is refused leaves a reply alone, so what it does at its channel decides. -/
theorem channelCommand_pending {p : Port} {cmd : Cmd} {arg : Word} {s : State} {act : Chan → State}
    (h : ∀ c, (act c).pending = s.pending) : (channelCommand p cmd arg s act).pending = s.pending := by
  unfold channelCommand
  split
  · split
    · exact h _
    · simp
  · simp

theorem doProbe_pending (p : Port) (arg : Word) (s : State) : (doProbe p arg s).pending = s.pending :=
  channelCommand_pending fun _ => by simp

theorem doWake_pending (p : Port) (arg : Word) (s : State) : (doWake p arg s).pending = s.pending :=
  channelCommand_pending fun _ => by simp

theorem doRetire_pending (p : Port) (arg : Word) (s : State) : (doRetire p arg s).pending = s.pending :=
  channelCommand_pending fun _ => by simp

theorem doRelease_pending (p : Port) (arg : Word) (s : State) : (doRelease p arg s).pending = s.pending :=
  channelCommand_pending fun _ => by simp

theorem doClearFault_pending (p : Port) (arg : Word) (s : State) : (doClearFault p arg s).pending = s.pending :=
  channelCommand_pending fun _ => by simp

theorem doTest_pending (p : Port) (arg : Word) (s : State) : (doTest p arg s).pending = s.pending :=
  channelCommand_pending fun _ => by simp

theorem doAbortTest_pending (p : Port) (arg : Word) (s : State) : (doAbortTest p arg s).pending = s.pending := by
  refine channelCommand_pending fun c => ?_
  simp only
  split
  · simp
  · split <;> simp

theorem doSend_pending (p : Port) (arg : Word) (s : State) : (doSend p arg s).pending = s.pending := by
  refine channelCommand_pending fun c => ?_
  simp only
  split <;> simp

theorem runCommand_pending (cmd : Cmd) (p : Port) (args : List Word) (s : State) :
    (runCommand cmd p args s).pending = s.pending := by
  cases cmd with
  | nop | status => exact done_pending ..
  | seek => exact doSeek_pending ..
  | read => exact doRead_pending ..
  | take => exact doTake_pending ..
  | ack => simp [runCommand, doAck]
  | mask => simp [runCommand, doMask]
  | watermark => simp [runCommand, doWatermark]
  | vote => exact doVote_pending ..
  | resetPort => exact doResetPort_pending ..
  | post => exact doPost_pending ..
  | cancelEdits => simp [runCommand, doCancelEdits, removeEdits]
  | probe => exact doProbe_pending ..
  | wake => exact doWake_pending ..
  | retire => exact doRetire_pending ..
  | release => exact doRelease_pending ..
  | clearFault => exact doClearFault_pending ..
  | test => exact doTest_pending ..
  | abortTest => exact doAbortTest_pending ..
  | send => exact doSend_pending ..
  | setGrant => simp [runCommand, doSetGrant]
  | deposit => simp [runCommand, doDeposit]
  | drain => simp [runCommand, doDrain]

/-! ### Every command -/

/-- The commands that wait after a command are those that waited before it. -/
def PendingKept (s t : State) : Prop := t.pending = s.pending

theorem Runs.pendingKept {s t : State} (h : Runs s t) : PendingKept s t :=
  h.keeps (I := PendingKept s) (fun hports hs => (congrArg State.pending hports).trans hs)
    (fun cmd p args u hs => (runCommand_pending cmd p args u).trans hs) rfl

theorem PendingKept.ite {q : Prop} [Decidable q] {s t : State} (h : PendingKept s t) : PendingKept s (if q then t else s) := by
  split
  · exact h
  · rfl

theorem pendingKept_whenLive {s t : State} (h : PendingKept s t) : AnswersWith PendingKept s (whenLive s t) := by
  refine ⟨_, rfl, ?_⟩
  split
  · rfl
  · exact h

/-- Every command answers, and leaves the commands that wait: a port's is made of commands and of writes of the ports'
registers; each other is one of the steps above. -/
theorem exec_pendingKept (i : Instr) (s : State) : AnswersWith PendingKept s (exec i s) := by
  cases hp : commandPort i with
  | some p =>
    obtain ⟨t, ht, hruns⟩ := exec_runs hp s
    exact ⟨t, ht, hruns.pendingKept⟩
  | none =>
    cases i with
    | deviceReset => exact ⟨_, rfl, rfl⟩
    | resetRelease adr1 adr0 =>
      exact ⟨_, rfl, .ite (beginSlot_pending { s with inReset := false, strap1 := adr1, strap0 := adr0 })⟩
    | sampleEvent bus readings => exact pendingKept_whenLive (.ite (sampleEvent_pending bus readings s))
    | slotEnd => exact pendingKept_whenLive (.ite (slotEnd_pending s))
    | frameOpening => exact pendingKept_whenLive (.ite (frameOpening_pending s))
    | slotStart =>
      refine pendingKept_whenLive ?_
      split
      · rename_i hready
        rw [slotStart_eq hready]
        exact beginSlot_pending { s with slotIndex := startedIndex s }
      · rfl
    | openLoadLost c => exact pendingKept_whenLive (openLoadLost_pending c s)
    | switchOnComplete c => exact pendingKept_whenLive (switchOnComplete_pending c s)
    | rampEnd c => exact pendingKept_whenLive (rampEnd_pending c s)
    | chopPeriodStart c => exact pendingKept_whenLive (chopPeriodStart_pending c s)
    | tripAssert c => exact pendingKept_whenLive (tripAssert_pending c s)
    | overcurrentAssert c => exact pendingKept_whenLive (overcurrentAssert_pending c s)
    | detectorLevelCrossing c current instant => exact pendingKept_whenLive (levelCrossing_pending c current instant s)
    | exchangeStart c => exact pendingKept_whenLive (exchangeStart_pending c s)
    | downlinkEnd c baseline => exact pendingKept_whenLive (downlinkEnd_pending c baseline s)
    | answerStart c instant rise => exact pendingKept_whenLive (answerStart_pending c instant rise s)
    | windowExpiry c => exact pendingKept_whenLive (windowExpiry_pending c s)
    | uplinkEnd c average => exact pendingKept_whenLive (uplinkEnd_pending c average s)
    | probeEndLine reading => exact pendingKept_whenLive (probeEndLine_pending reading s)
    | probeEndPair reading => exact pendingKept_whenLive (probeEndPair_pending reading.val s)
    | _ => cases hp

theorem step_of_cons {c : Instr} {rest : List Instr} {s : State} (h : s.pending = c :: rest) :
    step s = exec c { s with pending := rest } := by
  unfold step
  rw [h]

theorem step_of_nil {s : State} (h : s.pending = []) : step s = .next s := by
  unfold step
  rw [h]

/-- Settles O1: a step by whether a command waits; and every command keeps the commands that wait. -/
theorem stepRunsFrontCommand : Obligations.StepRunsFrontCommand := by
  unfold Obligations.StepRunsFrontCommand
  exact ⟨fun _ _ _ h => step_of_cons h, fun _ h => step_of_nil h, exec_pendingKept⟩

end Sys2Proof.Machine
end
